-- ==== Sys2Proof/Word.lean ====
section
/-! DEFINITION. The two widths of the block (00_scope.md R7, R9): a byte `u8` and a word `u16`. -/

namespace Sys2Proof

/-- An 8-bit register, memory byte or immediate (R9). -/
abbrev Byte := BitVec 8

/-- A 16-bit register pair, SP, PC or address (R9). -/
abbrev Word := BitVec 16

end Sys2Proof
end

