-- ==== Sys2Proof/Syntax.lean ====
section
/-! DEFINITION. The instruction syntax: operand fields (30_encoding.md R203 to R206, 46_cb_prefix.md R601), one constructor of `Instr` for each
of the 512 rows of spec/opcode_table.json, and the families of rows that differ only in an operand field (R222). -/

namespace Sys2Proof

/-- The seven registers of the 3-bit field `r` (R203). -/
inductive Reg8 where
  | b
  | c
  | d
  | e
  | h
  | l
  | a
deriving DecidableEq, Repr

/-- The field `r` with its value 6, the byte at HL (R203, R601). -/
inductive Operand8 where
  | reg (r : Reg8)
  | memHl
deriving DecidableEq, Repr

/-- The second operand of an ALU instruction (R400). -/
inductive AluSrc where
  | reg (r : Reg8)
  | memHl
  | imm (n : Byte)
deriving DecidableEq, Repr

/-- The eight ALU operations in the order of their field `y` (R400). -/
inductive AluOp where
  | add
  | adc
  | sub
  | sbc
  | and
  | xor
  | or
  | cp
deriving DecidableEq, Repr

/-- The pair field `rp` (R204). -/
inductive Pair where
  | bc
  | de
  | hl
  | sp
deriving DecidableEq, Repr

/-- The pair field `rp2` (R205). -/
inductive StackPair where
  | bc
  | de
  | hl
  | af
deriving DecidableEq, Repr

/-- The condition field `cc` (R206). -/
inductive Cond where
  | nz
  | z
  | nc
  | c
deriving DecidableEq, Repr

/-- The shift and rotate sub-operations in the order of their field `y` (R600). -/
inductive ShiftOp where
  | rlc
  | rrc
  | rl
  | rr
  | sla
  | sra
  | swap
  | srl
deriving DecidableEq, Repr

/-- The eleven opcode bytes with no defined operation (R216). -/
inductive IllegalOp where
  | opD3
  | opDB
  | opDD
  | opE3
  | opE4
  | opEB
  | opEC
  | opED
  | opF4
  | opFC
  | opFD
deriving DecidableEq, Repr

/-- The opcode byte of an illegal opcode (R216). -/
def IllegalOp.code : IllegalOp → Byte
  | .opD3 => 0xD3
  | .opDB => 0xDB
  | .opDD => 0xDD
  | .opE3 => 0xE3
  | .opE4 => 0xE4
  | .opEB => 0xEB
  | .opEC => 0xEC
  | .opED => 0xED
  | .opF4 => 0xF4
  | .opFC => 0xFC
  | .opFD => 0xFD

/-- The value of the 3-bit register field (R203). -/
def Reg8.code : Reg8 → BitVec 3
  | .b => 0
  | .c => 1
  | .d => 2
  | .e => 3
  | .h => 4
  | .l => 5
  | .a => 7

/-- The value of the 3-bit operand field; 6 is the byte at HL (R203). -/
def Operand8.code : Operand8 → BitVec 3
  | .reg r => r.code
  | .memHl => 6

/-- The operand a value of the 3-bit field names (R203). -/
def Operand8.ofCode (z : BitVec 3) : Operand8 :=
  if z = 0 then .reg .b
  else if z = 1 then .reg .c
  else if z = 2 then .reg .d
  else if z = 3 then .reg .e
  else if z = 4 then .reg .h
  else if z = 5 then .reg .l
  else if z = 6 then .memHl
  else .reg .a

/-- The value of the field `y` of an ALU operation (R400). -/
def AluOp.code : AluOp → BitVec 3
  | .add => 0
  | .adc => 1
  | .sub => 2
  | .sbc => 3
  | .and => 4
  | .xor => 5
  | .or => 6
  | .cp => 7

/-- The value of the pair field `rp` (R204). -/
def Pair.code : Pair → BitVec 2
  | .bc => 0
  | .de => 1
  | .hl => 2
  | .sp => 3

/-- The value of the pair field `rp2` (R205). -/
def StackPair.code : StackPair → BitVec 2
  | .bc => 0
  | .de => 1
  | .hl => 2
  | .af => 3

/-- The value of the condition field (R206). -/
def Cond.code : Cond → BitVec 2
  | .nz => 0
  | .z => 1
  | .nc => 2
  | .c => 3

/-- The value of the field `y` of a shift or rotate (R600). -/
def ShiftOp.code : ShiftOp → BitVec 3
  | .rlc => 0
  | .rrc => 1
  | .rl => 2
  | .rr => 3
  | .sla => 4
  | .sra => 5
  | .swap => 6
  | .srl => 7

/-- The sub-operation a value of the field `y` names (R600). -/
def ShiftOp.ofCode (y : BitVec 3) : ShiftOp :=
  if y = 0 then .rlc
  else if y = 1 then .rrc
  else if y = 2 then .rl
  else if y = 3 then .rr
  else if y = 4 then .sla
  else if y = 5 then .sra
  else if y = 6 then .swap
  else .srl

/-- One constructor for each row of spec/opcode_table.json, those with operand bytes first (the runtime bounds their tags), then the others, each in the table's order; an immediate or displacement byte or word is its argument (R200).
STOP keeps its ignored second byte, the prefix row its secondary byte (log entry 8). -/
inductive Instr where
  /-- `LD BC,n16`. -/
  | ldBcN16 (nn : Word)
  /-- `LD B,n8`. -/
  | ldBN8 (n : Byte)
  /-- `LD (n16),SP`. -/
  | ldMemN16Sp (nn : Word)
  /-- `LD C,n8`. -/
  | ldCN8 (n : Byte)
  /-- `STOP`. -/
  | stop (n : Byte)
  /-- `LD DE,n16`. -/
  | ldDeN16 (nn : Word)
  /-- `LD D,n8`. -/
  | ldDN8 (n : Byte)
  /-- `JR e8`. -/
  | jrE8 (e : Byte)
  /-- `LD E,n8`. -/
  | ldEN8 (n : Byte)
  /-- `JR NZ,e8`. -/
  | jrNzE8 (e : Byte)
  /-- `LD HL,n16`. -/
  | ldHlN16 (nn : Word)
  /-- `LD H,n8`. -/
  | ldHN8 (n : Byte)
  /-- `JR Z,e8`. -/
  | jrZE8 (e : Byte)
  /-- `LD L,n8`. -/
  | ldLN8 (n : Byte)
  /-- `JR NC,e8`. -/
  | jrNcE8 (e : Byte)
  /-- `LD SP,n16`. -/
  | ldSpN16 (nn : Word)
  /-- `LD (HL),n8`. -/
  | ldMemHlN8 (n : Byte)
  /-- `JR C,e8`. -/
  | jrCE8 (e : Byte)
  /-- `LD A,n8`. -/
  | ldAN8 (n : Byte)
  /-- `JP NZ,n16`. -/
  | jpNzN16 (nn : Word)
  /-- `JP n16`. -/
  | jpN16 (nn : Word)
  /-- `CALL NZ,n16`. -/
  | callNzN16 (nn : Word)
  /-- `ADD A,n8`. -/
  | addAN8 (n : Byte)
  /-- `JP Z,n16`. -/
  | jpZN16 (nn : Word)
  /-- `PREFIX CB`. -/
  | prefixCb (cb : Byte)
  /-- `CALL Z,n16`. -/
  | callZN16 (nn : Word)
  /-- `CALL n16`. -/
  | callN16 (nn : Word)
  /-- `ADC A,n8`. -/
  | adcAN8 (n : Byte)
  /-- `JP NC,n16`. -/
  | jpNcN16 (nn : Word)
  /-- `CALL NC,n16`. -/
  | callNcN16 (nn : Word)
  /-- `SUB n8`. -/
  | subN8 (n : Byte)
  /-- `JP C,n16`. -/
  | jpCN16 (nn : Word)
  /-- `CALL C,n16`. -/
  | callCN16 (nn : Word)
  /-- `SBC A,n8`. -/
  | sbcAN8 (n : Byte)
  /-- `LDH (n8),A`. -/
  | ldhMemN8A (n : Byte)
  /-- `AND n8`. -/
  | andN8 (n : Byte)
  /-- `ADD SP,e8`. -/
  | addSpE8 (e : Byte)
  /-- `LD (n16),A`. -/
  | ldMemN16A (nn : Word)
  /-- `XOR n8`. -/
  | xorN8 (n : Byte)
  /-- `LDH A,(n8)`. -/
  | ldhAMemN8 (n : Byte)
  /-- `OR n8`. -/
  | orN8 (n : Byte)
  /-- `LD HL,SP+e8`. -/
  | ldHlSpE8 (e : Byte)
  /-- `LD A,(n16)`. -/
  | ldAMemN16 (nn : Word)
  /-- `CP n8`. -/
  | cpN8 (n : Byte)
  /-- `NOP`. -/
  | nop
  /-- `LD (BC),A`. -/
  | ldMemBcA
  /-- `INC BC`. -/
  | incBc
  /-- `INC B`. -/
  | incB
  /-- `DEC B`. -/
  | decB
  /-- `RLCA`. -/
  | rlca
  /-- `ADD HL,BC`. -/
  | addHlBc
  /-- `LD A,(BC)`. -/
  | ldAMemBc
  /-- `DEC BC`. -/
  | decBc
  /-- `INC C`. -/
  | incC
  /-- `DEC C`. -/
  | decC
  /-- `RRCA`. -/
  | rrca
  /-- `LD (DE),A`. -/
  | ldMemDeA
  /-- `INC DE`. -/
  | incDe
  /-- `INC D`. -/
  | incD
  /-- `DEC D`. -/
  | decD
  /-- `RLA`. -/
  | rla
  /-- `ADD HL,DE`. -/
  | addHlDe
  /-- `LD A,(DE)`. -/
  | ldAMemDe
  /-- `DEC DE`. -/
  | decDe
  /-- `INC E`. -/
  | incE
  /-- `DEC E`. -/
  | decE
  /-- `RRA`. -/
  | rra
  /-- `LD (HL+),A`. -/
  | ldMemHlIncA
  /-- `INC HL`. -/
  | incHl
  /-- `INC H`. -/
  | incH
  /-- `DEC H`. -/
  | decH
  /-- `DAA`. -/
  | daa
  /-- `ADD HL,HL`. -/
  | addHlHl
  /-- `LD A,(HL+)`. -/
  | ldAMemHlInc
  /-- `DEC HL`. -/
  | decHl
  /-- `INC L`. -/
  | incL
  /-- `DEC L`. -/
  | decL
  /-- `CPL`. -/
  | cpl
  /-- `LD (HL-),A`. -/
  | ldMemHlDecA
  /-- `INC SP`. -/
  | incSp
  /-- `INC (HL)`. -/
  | incMemHl
  /-- `DEC (HL)`. -/
  | decMemHl
  /-- `SCF`. -/
  | scf
  /-- `ADD HL,SP`. -/
  | addHlSp
  /-- `LD A,(HL-)`. -/
  | ldAMemHlDec
  /-- `DEC SP`. -/
  | decSp
  /-- `INC A`. -/
  | incA
  /-- `DEC A`. -/
  | decA
  /-- `CCF`. -/
  | ccf
  /-- `LD B,B`. -/
  | ldBB
  /-- `LD B,C`. -/
  | ldBC
  /-- `LD B,D`. -/
  | ldBD
  /-- `LD B,E`. -/
  | ldBE
  /-- `LD B,H`. -/
  | ldBH
  /-- `LD B,L`. -/
  | ldBL
  /-- `LD B,(HL)`. -/
  | ldBMemHl
  /-- `LD B,A`. -/
  | ldBA
  /-- `LD C,B`. -/
  | ldCB
  /-- `LD C,C`. -/
  | ldCC
  /-- `LD C,D`. -/
  | ldCD
  /-- `LD C,E`. -/
  | ldCE
  /-- `LD C,H`. -/
  | ldCH
  /-- `LD C,L`. -/
  | ldCL
  /-- `LD C,(HL)`. -/
  | ldCMemHl
  /-- `LD C,A`. -/
  | ldCA
  /-- `LD D,B`. -/
  | ldDB
  /-- `LD D,C`. -/
  | ldDC
  /-- `LD D,D`. -/
  | ldDD
  /-- `LD D,E`. -/
  | ldDE
  /-- `LD D,H`. -/
  | ldDH
  /-- `LD D,L`. -/
  | ldDL
  /-- `LD D,(HL)`. -/
  | ldDMemHl
  /-- `LD D,A`. -/
  | ldDA
  /-- `LD E,B`. -/
  | ldEB
  /-- `LD E,C`. -/
  | ldEC
  /-- `LD E,D`. -/
  | ldED
  /-- `LD E,E`. -/
  | ldEE
  /-- `LD E,H`. -/
  | ldEH
  /-- `LD E,L`. -/
  | ldEL
  /-- `LD E,(HL)`. -/
  | ldEMemHl
  /-- `LD E,A`. -/
  | ldEA
  /-- `LD H,B`. -/
  | ldHB
  /-- `LD H,C`. -/
  | ldHC
  /-- `LD H,D`. -/
  | ldHD
  /-- `LD H,E`. -/
  | ldHE
  /-- `LD H,H`. -/
  | ldHH
  /-- `LD H,L`. -/
  | ldHL
  /-- `LD H,(HL)`. -/
  | ldHMemHl
  /-- `LD H,A`. -/
  | ldHA
  /-- `LD L,B`. -/
  | ldLB
  /-- `LD L,C`. -/
  | ldLC
  /-- `LD L,D`. -/
  | ldLD
  /-- `LD L,E`. -/
  | ldLE
  /-- `LD L,H`. -/
  | ldLH
  /-- `LD L,L`. -/
  | ldLL
  /-- `LD L,(HL)`. -/
  | ldLMemHl
  /-- `LD L,A`. -/
  | ldLA
  /-- `LD (HL),B`. -/
  | ldMemHlB
  /-- `LD (HL),C`. -/
  | ldMemHlC
  /-- `LD (HL),D`. -/
  | ldMemHlD
  /-- `LD (HL),E`. -/
  | ldMemHlE
  /-- `LD (HL),H`. -/
  | ldMemHlH
  /-- `LD (HL),L`. -/
  | ldMemHlL
  /-- `HALT`. -/
  | halt
  /-- `LD (HL),A`. -/
  | ldMemHlA
  /-- `LD A,B`. -/
  | ldAB
  /-- `LD A,C`. -/
  | ldAC
  /-- `LD A,D`. -/
  | ldAD
  /-- `LD A,E`. -/
  | ldAE
  /-- `LD A,H`. -/
  | ldAH
  /-- `LD A,L`. -/
  | ldAL
  /-- `LD A,(HL)`. -/
  | ldAMemHl
  /-- `LD A,A`. -/
  | ldAA
  /-- `ADD A,B`. -/
  | addAB
  /-- `ADD A,C`. -/
  | addAC
  /-- `ADD A,D`. -/
  | addAD
  /-- `ADD A,E`. -/
  | addAE
  /-- `ADD A,H`. -/
  | addAH
  /-- `ADD A,L`. -/
  | addAL
  /-- `ADD A,(HL)`. -/
  | addAMemHl
  /-- `ADD A,A`. -/
  | addAA
  /-- `ADC A,B`. -/
  | adcAB
  /-- `ADC A,C`. -/
  | adcAC
  /-- `ADC A,D`. -/
  | adcAD
  /-- `ADC A,E`. -/
  | adcAE
  /-- `ADC A,H`. -/
  | adcAH
  /-- `ADC A,L`. -/
  | adcAL
  /-- `ADC A,(HL)`. -/
  | adcAMemHl
  /-- `ADC A,A`. -/
  | adcAA
  /-- `SUB B`. -/
  | subB
  /-- `SUB C`. -/
  | subC
  /-- `SUB D`. -/
  | subD
  /-- `SUB E`. -/
  | subE
  /-- `SUB H`. -/
  | subH
  /-- `SUB L`. -/
  | subL
  /-- `SUB (HL)`. -/
  | subMemHl
  /-- `SUB A`. -/
  | subA
  /-- `SBC A,B`. -/
  | sbcAB
  /-- `SBC A,C`. -/
  | sbcAC
  /-- `SBC A,D`. -/
  | sbcAD
  /-- `SBC A,E`. -/
  | sbcAE
  /-- `SBC A,H`. -/
  | sbcAH
  /-- `SBC A,L`. -/
  | sbcAL
  /-- `SBC A,(HL)`. -/
  | sbcAMemHl
  /-- `SBC A,A`. -/
  | sbcAA
  /-- `AND B`. -/
  | andB
  /-- `AND C`. -/
  | andC
  /-- `AND D`. -/
  | andD
  /-- `AND E`. -/
  | andE
  /-- `AND H`. -/
  | andH
  /-- `AND L`. -/
  | andL
  /-- `AND (HL)`. -/
  | andMemHl
  /-- `AND A`. -/
  | andA
  /-- `XOR B`. -/
  | xorB
  /-- `XOR C`. -/
  | xorC
  /-- `XOR D`. -/
  | xorD
  /-- `XOR E`. -/
  | xorE
  /-- `XOR H`. -/
  | xorH
  /-- `XOR L`. -/
  | xorL
  /-- `XOR (HL)`. -/
  | xorMemHl
  /-- `XOR A`. -/
  | xorA
  /-- `OR B`. -/
  | orB
  /-- `OR C`. -/
  | orC
  /-- `OR D`. -/
  | orD
  /-- `OR E`. -/
  | orE
  /-- `OR H`. -/
  | orH
  /-- `OR L`. -/
  | orL
  /-- `OR (HL)`. -/
  | orMemHl
  /-- `OR A`. -/
  | orA
  /-- `CP B`. -/
  | cpB
  /-- `CP C`. -/
  | cpC
  /-- `CP D`. -/
  | cpD
  /-- `CP E`. -/
  | cpE
  /-- `CP H`. -/
  | cpH
  /-- `CP L`. -/
  | cpL
  /-- `CP (HL)`. -/
  | cpMemHl
  /-- `CP A`. -/
  | cpA
  /-- `RET NZ`. -/
  | retNz
  /-- `POP BC`. -/
  | popBc
  /-- `PUSH BC`. -/
  | pushBc
  /-- `RST 00h`. -/
  | rst00
  /-- `RET Z`. -/
  | retZ
  /-- `RET`. -/
  | ret
  /-- `RST 08h`. -/
  | rst08
  /-- `RET NC`. -/
  | retNc
  /-- `POP DE`. -/
  | popDe
  /-- `ILLEGAL_D3`. -/
  | illegalD3
  /-- `PUSH DE`. -/
  | pushDe
  /-- `RST 10h`. -/
  | rst10
  /-- `RET C`. -/
  | retC
  /-- `RETI`. -/
  | reti
  /-- `ILLEGAL_DB`. -/
  | illegalDB
  /-- `ILLEGAL_DD`. -/
  | illegalDD
  /-- `RST 18h`. -/
  | rst18
  /-- `POP HL`. -/
  | popHl
  /-- `LD (C),A`. -/
  | ldMemCA
  /-- `ILLEGAL_E3`. -/
  | illegalE3
  /-- `ILLEGAL_E4`. -/
  | illegalE4
  /-- `PUSH HL`. -/
  | pushHl
  /-- `RST 20h`. -/
  | rst20
  /-- `JP HL`. -/
  | jpHl
  /-- `ILLEGAL_EB`. -/
  | illegalEB
  /-- `ILLEGAL_EC`. -/
  | illegalEC
  /-- `ILLEGAL_ED`. -/
  | illegalED
  /-- `RST 28h`. -/
  | rst28
  /-- `POP AF`. -/
  | popAf
  /-- `LD A,(C)`. -/
  | ldAMemC
  /-- `DI`. -/
  | di
  /-- `ILLEGAL_F4`. -/
  | illegalF4
  /-- `PUSH AF`. -/
  | pushAf
  /-- `RST 30h`. -/
  | rst30
  /-- `LD SP,HL`. -/
  | ldSpHl
  /-- `EI`. -/
  | ei
  /-- `ILLEGAL_FC`. -/
  | illegalFC
  /-- `ILLEGAL_FD`. -/
  | illegalFD
  /-- `RST 38h`. -/
  | rst38
  /-- `RLC B`. -/
  | rlcB
  /-- `RLC C`. -/
  | rlcC
  /-- `RLC D`. -/
  | rlcD
  /-- `RLC E`. -/
  | rlcE
  /-- `RLC H`. -/
  | rlcH
  /-- `RLC L`. -/
  | rlcL
  /-- `RLC (HL)`. -/
  | rlcMemHl
  /-- `RLC A`. -/
  | rlcA
  /-- `RRC B`. -/
  | rrcB
  /-- `RRC C`. -/
  | rrcC
  /-- `RRC D`. -/
  | rrcD
  /-- `RRC E`. -/
  | rrcE
  /-- `RRC H`. -/
  | rrcH
  /-- `RRC L`. -/
  | rrcL
  /-- `RRC (HL)`. -/
  | rrcMemHl
  /-- `RRC A`. -/
  | rrcA
  /-- `RL B`. -/
  | rlB
  /-- `RL C`. -/
  | rlC
  /-- `RL D`. -/
  | rlD
  /-- `RL E`. -/
  | rlE
  /-- `RL H`. -/
  | rlH
  /-- `RL L`. -/
  | rlL
  /-- `RL (HL)`. -/
  | rlMemHl
  /-- `RL A`. -/
  | rlA
  /-- `RR B`. -/
  | rrB
  /-- `RR C`. -/
  | rrC
  /-- `RR D`. -/
  | rrD
  /-- `RR E`. -/
  | rrE
  /-- `RR H`. -/
  | rrH
  /-- `RR L`. -/
  | rrL
  /-- `RR (HL)`. -/
  | rrMemHl
  /-- `RR A`. -/
  | rrA
  /-- `SLA B`. -/
  | slaB
  /-- `SLA C`. -/
  | slaC
  /-- `SLA D`. -/
  | slaD
  /-- `SLA E`. -/
  | slaE
  /-- `SLA H`. -/
  | slaH
  /-- `SLA L`. -/
  | slaL
  /-- `SLA (HL)`. -/
  | slaMemHl
  /-- `SLA A`. -/
  | slaA
  /-- `SRA B`. -/
  | sraB
  /-- `SRA C`. -/
  | sraC
  /-- `SRA D`. -/
  | sraD
  /-- `SRA E`. -/
  | sraE
  /-- `SRA H`. -/
  | sraH
  /-- `SRA L`. -/
  | sraL
  /-- `SRA (HL)`. -/
  | sraMemHl
  /-- `SRA A`. -/
  | sraA
  /-- `SWAP B`. -/
  | swapB
  /-- `SWAP C`. -/
  | swapC
  /-- `SWAP D`. -/
  | swapD
  /-- `SWAP E`. -/
  | swapE
  /-- `SWAP H`. -/
  | swapH
  /-- `SWAP L`. -/
  | swapL
  /-- `SWAP (HL)`. -/
  | swapMemHl
  /-- `SWAP A`. -/
  | swapA
  /-- `SRL B`. -/
  | srlB
  /-- `SRL C`. -/
  | srlC
  /-- `SRL D`. -/
  | srlD
  /-- `SRL E`. -/
  | srlE
  /-- `SRL H`. -/
  | srlH
  /-- `SRL L`. -/
  | srlL
  /-- `SRL (HL)`. -/
  | srlMemHl
  /-- `SRL A`. -/
  | srlA
  /-- `BIT 0,B`. -/
  | bit0B
  /-- `BIT 0,C`. -/
  | bit0C
  /-- `BIT 0,D`. -/
  | bit0D
  /-- `BIT 0,E`. -/
  | bit0E
  /-- `BIT 0,H`. -/
  | bit0H
  /-- `BIT 0,L`. -/
  | bit0L
  /-- `BIT 0,(HL)`. -/
  | bit0MemHl
  /-- `BIT 0,A`. -/
  | bit0A
  /-- `BIT 1,B`. -/
  | bit1B
  /-- `BIT 1,C`. -/
  | bit1C
  /-- `BIT 1,D`. -/
  | bit1D
  /-- `BIT 1,E`. -/
  | bit1E
  /-- `BIT 1,H`. -/
  | bit1H
  /-- `BIT 1,L`. -/
  | bit1L
  /-- `BIT 1,(HL)`. -/
  | bit1MemHl
  /-- `BIT 1,A`. -/
  | bit1A
  /-- `BIT 2,B`. -/
  | bit2B
  /-- `BIT 2,C`. -/
  | bit2C
  /-- `BIT 2,D`. -/
  | bit2D
  /-- `BIT 2,E`. -/
  | bit2E
  /-- `BIT 2,H`. -/
  | bit2H
  /-- `BIT 2,L`. -/
  | bit2L
  /-- `BIT 2,(HL)`. -/
  | bit2MemHl
  /-- `BIT 2,A`. -/
  | bit2A
  /-- `BIT 3,B`. -/
  | bit3B
  /-- `BIT 3,C`. -/
  | bit3C
  /-- `BIT 3,D`. -/
  | bit3D
  /-- `BIT 3,E`. -/
  | bit3E
  /-- `BIT 3,H`. -/
  | bit3H
  /-- `BIT 3,L`. -/
  | bit3L
  /-- `BIT 3,(HL)`. -/
  | bit3MemHl
  /-- `BIT 3,A`. -/
  | bit3A
  /-- `BIT 4,B`. -/
  | bit4B
  /-- `BIT 4,C`. -/
  | bit4C
  /-- `BIT 4,D`. -/
  | bit4D
  /-- `BIT 4,E`. -/
  | bit4E
  /-- `BIT 4,H`. -/
  | bit4H
  /-- `BIT 4,L`. -/
  | bit4L
  /-- `BIT 4,(HL)`. -/
  | bit4MemHl
  /-- `BIT 4,A`. -/
  | bit4A
  /-- `BIT 5,B`. -/
  | bit5B
  /-- `BIT 5,C`. -/
  | bit5C
  /-- `BIT 5,D`. -/
  | bit5D
  /-- `BIT 5,E`. -/
  | bit5E
  /-- `BIT 5,H`. -/
  | bit5H
  /-- `BIT 5,L`. -/
  | bit5L
  /-- `BIT 5,(HL)`. -/
  | bit5MemHl
  /-- `BIT 5,A`. -/
  | bit5A
  /-- `BIT 6,B`. -/
  | bit6B
  /-- `BIT 6,C`. -/
  | bit6C
  /-- `BIT 6,D`. -/
  | bit6D
  /-- `BIT 6,E`. -/
  | bit6E
  /-- `BIT 6,H`. -/
  | bit6H
  /-- `BIT 6,L`. -/
  | bit6L
  /-- `BIT 6,(HL)`. -/
  | bit6MemHl
  /-- `BIT 6,A`. -/
  | bit6A
  /-- `BIT 7,B`. -/
  | bit7B
  /-- `BIT 7,C`. -/
  | bit7C
  /-- `BIT 7,D`. -/
  | bit7D
  /-- `BIT 7,E`. -/
  | bit7E
  /-- `BIT 7,H`. -/
  | bit7H
  /-- `BIT 7,L`. -/
  | bit7L
  /-- `BIT 7,(HL)`. -/
  | bit7MemHl
  /-- `BIT 7,A`. -/
  | bit7A
  /-- `RES 0,B`. -/
  | res0B
  /-- `RES 0,C`. -/
  | res0C
  /-- `RES 0,D`. -/
  | res0D
  /-- `RES 0,E`. -/
  | res0E
  /-- `RES 0,H`. -/
  | res0H
  /-- `RES 0,L`. -/
  | res0L
  /-- `RES 0,(HL)`. -/
  | res0MemHl
  /-- `RES 0,A`. -/
  | res0A
  /-- `RES 1,B`. -/
  | res1B
  /-- `RES 1,C`. -/
  | res1C
  /-- `RES 1,D`. -/
  | res1D
  /-- `RES 1,E`. -/
  | res1E
  /-- `RES 1,H`. -/
  | res1H
  /-- `RES 1,L`. -/
  | res1L
  /-- `RES 1,(HL)`. -/
  | res1MemHl
  /-- `RES 1,A`. -/
  | res1A
  /-- `RES 2,B`. -/
  | res2B
  /-- `RES 2,C`. -/
  | res2C
  /-- `RES 2,D`. -/
  | res2D
  /-- `RES 2,E`. -/
  | res2E
  /-- `RES 2,H`. -/
  | res2H
  /-- `RES 2,L`. -/
  | res2L
  /-- `RES 2,(HL)`. -/
  | res2MemHl
  /-- `RES 2,A`. -/
  | res2A
  /-- `RES 3,B`. -/
  | res3B
  /-- `RES 3,C`. -/
  | res3C
  /-- `RES 3,D`. -/
  | res3D
  /-- `RES 3,E`. -/
  | res3E
  /-- `RES 3,H`. -/
  | res3H
  /-- `RES 3,L`. -/
  | res3L
  /-- `RES 3,(HL)`. -/
  | res3MemHl
  /-- `RES 3,A`. -/
  | res3A
  /-- `RES 4,B`. -/
  | res4B
  /-- `RES 4,C`. -/
  | res4C
  /-- `RES 4,D`. -/
  | res4D
  /-- `RES 4,E`. -/
  | res4E
  /-- `RES 4,H`. -/
  | res4H
  /-- `RES 4,L`. -/
  | res4L
  /-- `RES 4,(HL)`. -/
  | res4MemHl
  /-- `RES 4,A`. -/
  | res4A
  /-- `RES 5,B`. -/
  | res5B
  /-- `RES 5,C`. -/
  | res5C
  /-- `RES 5,D`. -/
  | res5D
  /-- `RES 5,E`. -/
  | res5E
  /-- `RES 5,H`. -/
  | res5H
  /-- `RES 5,L`. -/
  | res5L
  /-- `RES 5,(HL)`. -/
  | res5MemHl
  /-- `RES 5,A`. -/
  | res5A
  /-- `RES 6,B`. -/
  | res6B
  /-- `RES 6,C`. -/
  | res6C
  /-- `RES 6,D`. -/
  | res6D
  /-- `RES 6,E`. -/
  | res6E
  /-- `RES 6,H`. -/
  | res6H
  /-- `RES 6,L`. -/
  | res6L
  /-- `RES 6,(HL)`. -/
  | res6MemHl
  /-- `RES 6,A`. -/
  | res6A
  /-- `RES 7,B`. -/
  | res7B
  /-- `RES 7,C`. -/
  | res7C
  /-- `RES 7,D`. -/
  | res7D
  /-- `RES 7,E`. -/
  | res7E
  /-- `RES 7,H`. -/
  | res7H
  /-- `RES 7,L`. -/
  | res7L
  /-- `RES 7,(HL)`. -/
  | res7MemHl
  /-- `RES 7,A`. -/
  | res7A
  /-- `SET 0,B`. -/
  | set0B
  /-- `SET 0,C`. -/
  | set0C
  /-- `SET 0,D`. -/
  | set0D
  /-- `SET 0,E`. -/
  | set0E
  /-- `SET 0,H`. -/
  | set0H
  /-- `SET 0,L`. -/
  | set0L
  /-- `SET 0,(HL)`. -/
  | set0MemHl
  /-- `SET 0,A`. -/
  | set0A
  /-- `SET 1,B`. -/
  | set1B
  /-- `SET 1,C`. -/
  | set1C
  /-- `SET 1,D`. -/
  | set1D
  /-- `SET 1,E`. -/
  | set1E
  /-- `SET 1,H`. -/
  | set1H
  /-- `SET 1,L`. -/
  | set1L
  /-- `SET 1,(HL)`. -/
  | set1MemHl
  /-- `SET 1,A`. -/
  | set1A
  /-- `SET 2,B`. -/
  | set2B
  /-- `SET 2,C`. -/
  | set2C
  /-- `SET 2,D`. -/
  | set2D
  /-- `SET 2,E`. -/
  | set2E
  /-- `SET 2,H`. -/
  | set2H
  /-- `SET 2,L`. -/
  | set2L
  /-- `SET 2,(HL)`. -/
  | set2MemHl
  /-- `SET 2,A`. -/
  | set2A
  /-- `SET 3,B`. -/
  | set3B
  /-- `SET 3,C`. -/
  | set3C
  /-- `SET 3,D`. -/
  | set3D
  /-- `SET 3,E`. -/
  | set3E
  /-- `SET 3,H`. -/
  | set3H
  /-- `SET 3,L`. -/
  | set3L
  /-- `SET 3,(HL)`. -/
  | set3MemHl
  /-- `SET 3,A`. -/
  | set3A
  /-- `SET 4,B`. -/
  | set4B
  /-- `SET 4,C`. -/
  | set4C
  /-- `SET 4,D`. -/
  | set4D
  /-- `SET 4,E`. -/
  | set4E
  /-- `SET 4,H`. -/
  | set4H
  /-- `SET 4,L`. -/
  | set4L
  /-- `SET 4,(HL)`. -/
  | set4MemHl
  /-- `SET 4,A`. -/
  | set4A
  /-- `SET 5,B`. -/
  | set5B
  /-- `SET 5,C`. -/
  | set5C
  /-- `SET 5,D`. -/
  | set5D
  /-- `SET 5,E`. -/
  | set5E
  /-- `SET 5,H`. -/
  | set5H
  /-- `SET 5,L`. -/
  | set5L
  /-- `SET 5,(HL)`. -/
  | set5MemHl
  /-- `SET 5,A`. -/
  | set5A
  /-- `SET 6,B`. -/
  | set6B
  /-- `SET 6,C`. -/
  | set6C
  /-- `SET 6,D`. -/
  | set6D
  /-- `SET 6,E`. -/
  | set6E
  /-- `SET 6,H`. -/
  | set6H
  /-- `SET 6,L`. -/
  | set6L
  /-- `SET 6,(HL)`. -/
  | set6MemHl
  /-- `SET 6,A`. -/
  | set6A
  /-- `SET 7,B`. -/
  | set7B
  /-- `SET 7,C`. -/
  | set7C
  /-- `SET 7,D`. -/
  | set7D
  /-- `SET 7,E`. -/
  | set7E
  /-- `SET 7,H`. -/
  | set7H
  /-- `SET 7,L`. -/
  | set7L
  /-- `SET 7,(HL)`. -/
  | set7MemHl
  /-- `SET 7,A`. -/
  | set7A
deriving DecidableEq, Repr

/-- The 49 forms `LD r,r'` (R300). -/
def Instr.ldRegReg (dst : Reg8) (r : Reg8) : Instr :=
  match dst, r with
  | .b, .b => .ldBB
  | .b, .c => .ldBC
  | .b, .d => .ldBD
  | .b, .e => .ldBE
  | .b, .h => .ldBH
  | .b, .l => .ldBL
  | .b, .a => .ldBA
  | .c, .b => .ldCB
  | .c, .c => .ldCC
  | .c, .d => .ldCD
  | .c, .e => .ldCE
  | .c, .h => .ldCH
  | .c, .l => .ldCL
  | .c, .a => .ldCA
  | .d, .b => .ldDB
  | .d, .c => .ldDC
  | .d, .d => .ldDD
  | .d, .e => .ldDE
  | .d, .h => .ldDH
  | .d, .l => .ldDL
  | .d, .a => .ldDA
  | .e, .b => .ldEB
  | .e, .c => .ldEC
  | .e, .d => .ldED
  | .e, .e => .ldEE
  | .e, .h => .ldEH
  | .e, .l => .ldEL
  | .e, .a => .ldEA
  | .h, .b => .ldHB
  | .h, .c => .ldHC
  | .h, .d => .ldHD
  | .h, .e => .ldHE
  | .h, .h => .ldHH
  | .h, .l => .ldHL
  | .h, .a => .ldHA
  | .l, .b => .ldLB
  | .l, .c => .ldLC
  | .l, .d => .ldLD
  | .l, .e => .ldLE
  | .l, .h => .ldLH
  | .l, .l => .ldLL
  | .l, .a => .ldLA
  | .a, .b => .ldAB
  | .a, .c => .ldAC
  | .a, .d => .ldAD
  | .a, .e => .ldAE
  | .a, .h => .ldAH
  | .a, .l => .ldAL
  | .a, .a => .ldAA

/-- The forms `LD r,n8` (R301). -/
def Instr.ldRegImm (dst : Reg8) (n : Byte) : Instr :=
  match dst, n with
  | .b, n => .ldBN8 n
  | .c, n => .ldCN8 n
  | .d, n => .ldDN8 n
  | .e, n => .ldEN8 n
  | .h, n => .ldHN8 n
  | .l, n => .ldLN8 n
  | .a, n => .ldAN8 n

/-- The forms `LD r,(HL)` (R302). -/
def Instr.ldRegMem (dst : Reg8) : Instr :=
  match dst with
  | .b => .ldBMemHl
  | .c => .ldCMemHl
  | .d => .ldDMemHl
  | .e => .ldEMemHl
  | .h => .ldHMemHl
  | .l => .ldLMemHl
  | .a => .ldAMemHl

/-- The forms `LD (HL),r` (R303). -/
def Instr.ldMemReg (r : Reg8) : Instr :=
  match r with
  | .b => .ldMemHlB
  | .c => .ldMemHlC
  | .d => .ldMemHlD
  | .e => .ldMemHlE
  | .h => .ldMemHlH
  | .l => .ldMemHlL
  | .a => .ldMemHlA

/-- The forms `LD rr,n16` (R319). -/
def Instr.ldPairImm (p : Pair) (nn : Word) : Instr :=
  match p, nn with
  | .bc, nn => .ldBcN16 nn
  | .de, nn => .ldDeN16 nn
  | .hl, nn => .ldHlN16 nn
  | .sp, nn => .ldSpN16 nn

/-- The forms `PUSH rr` (R324). -/
def Instr.push (q : StackPair) : Instr :=
  match q with
  | .bc => .pushBc
  | .de => .pushDe
  | .hl => .pushHl
  | .af => .pushAf

/-- The forms `POP rr` (R325) and `POP AF` (R326). -/
def Instr.pop (q : StackPair) : Instr :=
  match q with
  | .bc => .popBc
  | .de => .popDe
  | .hl => .popHl
  | .af => .popAf

/-- The forms `ADD A,s` to `CP s` over r, (HL) and n8 (R400 to R408). -/
def Instr.alu (op : AluOp) (x : AluSrc) : Instr :=
  match op, x with
  | .add, .reg .b => .addAB
  | .add, .reg .c => .addAC
  | .add, .reg .d => .addAD
  | .add, .reg .e => .addAE
  | .add, .reg .h => .addAH
  | .add, .reg .l => .addAL
  | .add, .memHl => .addAMemHl
  | .add, .reg .a => .addAA
  | .adc, .reg .b => .adcAB
  | .adc, .reg .c => .adcAC
  | .adc, .reg .d => .adcAD
  | .adc, .reg .e => .adcAE
  | .adc, .reg .h => .adcAH
  | .adc, .reg .l => .adcAL
  | .adc, .memHl => .adcAMemHl
  | .adc, .reg .a => .adcAA
  | .sub, .reg .b => .subB
  | .sub, .reg .c => .subC
  | .sub, .reg .d => .subD
  | .sub, .reg .e => .subE
  | .sub, .reg .h => .subH
  | .sub, .reg .l => .subL
  | .sub, .memHl => .subMemHl
  | .sub, .reg .a => .subA
  | .sbc, .reg .b => .sbcAB
  | .sbc, .reg .c => .sbcAC
  | .sbc, .reg .d => .sbcAD
  | .sbc, .reg .e => .sbcAE
  | .sbc, .reg .h => .sbcAH
  | .sbc, .reg .l => .sbcAL
  | .sbc, .memHl => .sbcAMemHl
  | .sbc, .reg .a => .sbcAA
  | .and, .reg .b => .andB
  | .and, .reg .c => .andC
  | .and, .reg .d => .andD
  | .and, .reg .e => .andE
  | .and, .reg .h => .andH
  | .and, .reg .l => .andL
  | .and, .memHl => .andMemHl
  | .and, .reg .a => .andA
  | .xor, .reg .b => .xorB
  | .xor, .reg .c => .xorC
  | .xor, .reg .d => .xorD
  | .xor, .reg .e => .xorE
  | .xor, .reg .h => .xorH
  | .xor, .reg .l => .xorL
  | .xor, .memHl => .xorMemHl
  | .xor, .reg .a => .xorA
  | .or, .reg .b => .orB
  | .or, .reg .c => .orC
  | .or, .reg .d => .orD
  | .or, .reg .e => .orE
  | .or, .reg .h => .orH
  | .or, .reg .l => .orL
  | .or, .memHl => .orMemHl
  | .or, .reg .a => .orA
  | .cp, .reg .b => .cpB
  | .cp, .reg .c => .cpC
  | .cp, .reg .d => .cpD
  | .cp, .reg .e => .cpE
  | .cp, .reg .h => .cpH
  | .cp, .reg .l => .cpL
  | .cp, .memHl => .cpMemHl
  | .cp, .reg .a => .cpA
  | .add, .imm n => .addAN8 n
  | .adc, .imm n => .adcAN8 n
  | .sub, .imm n => .subN8 n
  | .sbc, .imm n => .sbcAN8 n
  | .and, .imm n => .andN8 n
  | .xor, .imm n => .xorN8 n
  | .or, .imm n => .orN8 n
  | .cp, .imm n => .cpN8 n

/-- The forms `INC r` (R409). -/
def Instr.incReg (r : Reg8) : Instr :=
  match r with
  | .b => .incB
  | .c => .incC
  | .d => .incD
  | .e => .incE
  | .h => .incH
  | .l => .incL
  | .a => .incA

/-- The forms `DEC r` (R411). -/
def Instr.decReg (r : Reg8) : Instr :=
  match r with
  | .b => .decB
  | .c => .decC
  | .d => .decD
  | .e => .decE
  | .h => .decH
  | .l => .decL
  | .a => .decA

/-- The forms `ADD HL,rr` (R450). -/
def Instr.addHlPair (p : Pair) : Instr :=
  match p with
  | .bc => .addHlBc
  | .de => .addHlDe
  | .hl => .addHlHl
  | .sp => .addHlSp

/-- The forms `INC rr` (R451). -/
def Instr.incPair (p : Pair) : Instr :=
  match p with
  | .bc => .incBc
  | .de => .incDe
  | .hl => .incHl
  | .sp => .incSp

/-- The forms `DEC rr` (R452). -/
def Instr.decPair (p : Pair) : Instr :=
  match p with
  | .bc => .decBc
  | .de => .decDe
  | .hl => .decHl
  | .sp => .decSp

/-- The forms `JP cc,n16` (R501). -/
def Instr.jpCond (cc : Cond) (nn : Word) : Instr :=
  match cc, nn with
  | .nz, nn => .jpNzN16 nn
  | .z, nn => .jpZN16 nn
  | .nc, nn => .jpNcN16 nn
  | .c, nn => .jpCN16 nn

/-- The forms `JR cc,e8` (R504). -/
def Instr.jrCond (cc : Cond) (e : Byte) : Instr :=
  match cc, e with
  | .nz, e => .jrNzE8 e
  | .z, e => .jrZE8 e
  | .nc, e => .jrNcE8 e
  | .c, e => .jrCE8 e

/-- The forms `CALL cc,n16` (R506). -/
def Instr.callCond (cc : Cond) (nn : Word) : Instr :=
  match cc, nn with
  | .nz, nn => .callNzN16 nn
  | .z, nn => .callZN16 nn
  | .nc, nn => .callNcN16 nn
  | .c, nn => .callCN16 nn

/-- The forms `RET cc` (R508). -/
def Instr.retCond (cc : Cond) : Instr :=
  match cc with
  | .nz => .retNz
  | .z => .retZ
  | .nc => .retNc
  | .c => .retC

/-- The forms `RST t`, t = 8 y (R510). -/
def Instr.rst (t : Fin 8) : Instr :=
  match t with
  | 0 => .rst00
  | 1 => .rst08
  | 2 => .rst10
  | 3 => .rst18
  | 4 => .rst20
  | 5 => .rst28
  | 6 => .rst30
  | 7 => .rst38

/-- The eleven illegal opcodes (R216, R557). -/
def Instr.illegal (k : IllegalOp) : Instr :=
  match k with
  | .opD3 => .illegalD3
  | .opDB => .illegalDB
  | .opDD => .illegalDD
  | .opE3 => .illegalE3
  | .opE4 => .illegalE4
  | .opEB => .illegalEB
  | .opEC => .illegalEC
  | .opED => .illegalED
  | .opF4 => .illegalF4
  | .opFC => .illegalFC
  | .opFD => .illegalFD

/-- The 64 shifts and rotates of the 0xCB table (R604 to R611). -/
def Instr.shift (k : ShiftOp) (o : Operand8) : Instr :=
  match k, o with
  | .rlc, .reg .b => .rlcB
  | .rlc, .reg .c => .rlcC
  | .rlc, .reg .d => .rlcD
  | .rlc, .reg .e => .rlcE
  | .rlc, .reg .h => .rlcH
  | .rlc, .reg .l => .rlcL
  | .rlc, .memHl => .rlcMemHl
  | .rlc, .reg .a => .rlcA
  | .rrc, .reg .b => .rrcB
  | .rrc, .reg .c => .rrcC
  | .rrc, .reg .d => .rrcD
  | .rrc, .reg .e => .rrcE
  | .rrc, .reg .h => .rrcH
  | .rrc, .reg .l => .rrcL
  | .rrc, .memHl => .rrcMemHl
  | .rrc, .reg .a => .rrcA
  | .rl, .reg .b => .rlB
  | .rl, .reg .c => .rlC
  | .rl, .reg .d => .rlD
  | .rl, .reg .e => .rlE
  | .rl, .reg .h => .rlH
  | .rl, .reg .l => .rlL
  | .rl, .memHl => .rlMemHl
  | .rl, .reg .a => .rlA
  | .rr, .reg .b => .rrB
  | .rr, .reg .c => .rrC
  | .rr, .reg .d => .rrD
  | .rr, .reg .e => .rrE
  | .rr, .reg .h => .rrH
  | .rr, .reg .l => .rrL
  | .rr, .memHl => .rrMemHl
  | .rr, .reg .a => .rrA
  | .sla, .reg .b => .slaB
  | .sla, .reg .c => .slaC
  | .sla, .reg .d => .slaD
  | .sla, .reg .e => .slaE
  | .sla, .reg .h => .slaH
  | .sla, .reg .l => .slaL
  | .sla, .memHl => .slaMemHl
  | .sla, .reg .a => .slaA
  | .sra, .reg .b => .sraB
  | .sra, .reg .c => .sraC
  | .sra, .reg .d => .sraD
  | .sra, .reg .e => .sraE
  | .sra, .reg .h => .sraH
  | .sra, .reg .l => .sraL
  | .sra, .memHl => .sraMemHl
  | .sra, .reg .a => .sraA
  | .swap, .reg .b => .swapB
  | .swap, .reg .c => .swapC
  | .swap, .reg .d => .swapD
  | .swap, .reg .e => .swapE
  | .swap, .reg .h => .swapH
  | .swap, .reg .l => .swapL
  | .swap, .memHl => .swapMemHl
  | .swap, .reg .a => .swapA
  | .srl, .reg .b => .srlB
  | .srl, .reg .c => .srlC
  | .srl, .reg .d => .srlD
  | .srl, .reg .e => .srlE
  | .srl, .reg .h => .srlH
  | .srl, .reg .l => .srlL
  | .srl, .memHl => .srlMemHl
  | .srl, .reg .a => .srlA

/-- The 64 forms `BIT b,o` (R612). -/
def Instr.bit (b : Fin 8) (o : Operand8) : Instr :=
  match b, o with
  | 0, .reg .b => .bit0B
  | 0, .reg .c => .bit0C
  | 0, .reg .d => .bit0D
  | 0, .reg .e => .bit0E
  | 0, .reg .h => .bit0H
  | 0, .reg .l => .bit0L
  | 0, .memHl => .bit0MemHl
  | 0, .reg .a => .bit0A
  | 1, .reg .b => .bit1B
  | 1, .reg .c => .bit1C
  | 1, .reg .d => .bit1D
  | 1, .reg .e => .bit1E
  | 1, .reg .h => .bit1H
  | 1, .reg .l => .bit1L
  | 1, .memHl => .bit1MemHl
  | 1, .reg .a => .bit1A
  | 2, .reg .b => .bit2B
  | 2, .reg .c => .bit2C
  | 2, .reg .d => .bit2D
  | 2, .reg .e => .bit2E
  | 2, .reg .h => .bit2H
  | 2, .reg .l => .bit2L
  | 2, .memHl => .bit2MemHl
  | 2, .reg .a => .bit2A
  | 3, .reg .b => .bit3B
  | 3, .reg .c => .bit3C
  | 3, .reg .d => .bit3D
  | 3, .reg .e => .bit3E
  | 3, .reg .h => .bit3H
  | 3, .reg .l => .bit3L
  | 3, .memHl => .bit3MemHl
  | 3, .reg .a => .bit3A
  | 4, .reg .b => .bit4B
  | 4, .reg .c => .bit4C
  | 4, .reg .d => .bit4D
  | 4, .reg .e => .bit4E
  | 4, .reg .h => .bit4H
  | 4, .reg .l => .bit4L
  | 4, .memHl => .bit4MemHl
  | 4, .reg .a => .bit4A
  | 5, .reg .b => .bit5B
  | 5, .reg .c => .bit5C
  | 5, .reg .d => .bit5D
  | 5, .reg .e => .bit5E
  | 5, .reg .h => .bit5H
  | 5, .reg .l => .bit5L
  | 5, .memHl => .bit5MemHl
  | 5, .reg .a => .bit5A
  | 6, .reg .b => .bit6B
  | 6, .reg .c => .bit6C
  | 6, .reg .d => .bit6D
  | 6, .reg .e => .bit6E
  | 6, .reg .h => .bit6H
  | 6, .reg .l => .bit6L
  | 6, .memHl => .bit6MemHl
  | 6, .reg .a => .bit6A
  | 7, .reg .b => .bit7B
  | 7, .reg .c => .bit7C
  | 7, .reg .d => .bit7D
  | 7, .reg .e => .bit7E
  | 7, .reg .h => .bit7H
  | 7, .reg .l => .bit7L
  | 7, .memHl => .bit7MemHl
  | 7, .reg .a => .bit7A

/-- The 64 forms `RES b,o` (R613). -/
def Instr.res (b : Fin 8) (o : Operand8) : Instr :=
  match b, o with
  | 0, .reg .b => .res0B
  | 0, .reg .c => .res0C
  | 0, .reg .d => .res0D
  | 0, .reg .e => .res0E
  | 0, .reg .h => .res0H
  | 0, .reg .l => .res0L
  | 0, .memHl => .res0MemHl
  | 0, .reg .a => .res0A
  | 1, .reg .b => .res1B
  | 1, .reg .c => .res1C
  | 1, .reg .d => .res1D
  | 1, .reg .e => .res1E
  | 1, .reg .h => .res1H
  | 1, .reg .l => .res1L
  | 1, .memHl => .res1MemHl
  | 1, .reg .a => .res1A
  | 2, .reg .b => .res2B
  | 2, .reg .c => .res2C
  | 2, .reg .d => .res2D
  | 2, .reg .e => .res2E
  | 2, .reg .h => .res2H
  | 2, .reg .l => .res2L
  | 2, .memHl => .res2MemHl
  | 2, .reg .a => .res2A
  | 3, .reg .b => .res3B
  | 3, .reg .c => .res3C
  | 3, .reg .d => .res3D
  | 3, .reg .e => .res3E
  | 3, .reg .h => .res3H
  | 3, .reg .l => .res3L
  | 3, .memHl => .res3MemHl
  | 3, .reg .a => .res3A
  | 4, .reg .b => .res4B
  | 4, .reg .c => .res4C
  | 4, .reg .d => .res4D
  | 4, .reg .e => .res4E
  | 4, .reg .h => .res4H
  | 4, .reg .l => .res4L
  | 4, .memHl => .res4MemHl
  | 4, .reg .a => .res4A
  | 5, .reg .b => .res5B
  | 5, .reg .c => .res5C
  | 5, .reg .d => .res5D
  | 5, .reg .e => .res5E
  | 5, .reg .h => .res5H
  | 5, .reg .l => .res5L
  | 5, .memHl => .res5MemHl
  | 5, .reg .a => .res5A
  | 6, .reg .b => .res6B
  | 6, .reg .c => .res6C
  | 6, .reg .d => .res6D
  | 6, .reg .e => .res6E
  | 6, .reg .h => .res6H
  | 6, .reg .l => .res6L
  | 6, .memHl => .res6MemHl
  | 6, .reg .a => .res6A
  | 7, .reg .b => .res7B
  | 7, .reg .c => .res7C
  | 7, .reg .d => .res7D
  | 7, .reg .e => .res7E
  | 7, .reg .h => .res7H
  | 7, .reg .l => .res7L
  | 7, .memHl => .res7MemHl
  | 7, .reg .a => .res7A

/-- The 64 forms `SET b,o` (R614). -/
def Instr.set (b : Fin 8) (o : Operand8) : Instr :=
  match b, o with
  | 0, .reg .b => .set0B
  | 0, .reg .c => .set0C
  | 0, .reg .d => .set0D
  | 0, .reg .e => .set0E
  | 0, .reg .h => .set0H
  | 0, .reg .l => .set0L
  | 0, .memHl => .set0MemHl
  | 0, .reg .a => .set0A
  | 1, .reg .b => .set1B
  | 1, .reg .c => .set1C
  | 1, .reg .d => .set1D
  | 1, .reg .e => .set1E
  | 1, .reg .h => .set1H
  | 1, .reg .l => .set1L
  | 1, .memHl => .set1MemHl
  | 1, .reg .a => .set1A
  | 2, .reg .b => .set2B
  | 2, .reg .c => .set2C
  | 2, .reg .d => .set2D
  | 2, .reg .e => .set2E
  | 2, .reg .h => .set2H
  | 2, .reg .l => .set2L
  | 2, .memHl => .set2MemHl
  | 2, .reg .a => .set2A
  | 3, .reg .b => .set3B
  | 3, .reg .c => .set3C
  | 3, .reg .d => .set3D
  | 3, .reg .e => .set3E
  | 3, .reg .h => .set3H
  | 3, .reg .l => .set3L
  | 3, .memHl => .set3MemHl
  | 3, .reg .a => .set3A
  | 4, .reg .b => .set4B
  | 4, .reg .c => .set4C
  | 4, .reg .d => .set4D
  | 4, .reg .e => .set4E
  | 4, .reg .h => .set4H
  | 4, .reg .l => .set4L
  | 4, .memHl => .set4MemHl
  | 4, .reg .a => .set4A
  | 5, .reg .b => .set5B
  | 5, .reg .c => .set5C
  | 5, .reg .d => .set5D
  | 5, .reg .e => .set5E
  | 5, .reg .h => .set5H
  | 5, .reg .l => .set5L
  | 5, .memHl => .set5MemHl
  | 5, .reg .a => .set5A
  | 6, .reg .b => .set6B
  | 6, .reg .c => .set6C
  | 6, .reg .d => .set6D
  | 6, .reg .e => .set6E
  | 6, .reg .h => .set6H
  | 6, .reg .l => .set6L
  | 6, .memHl => .set6MemHl
  | 6, .reg .a => .set6A
  | 7, .reg .b => .set7B
  | 7, .reg .c => .set7C
  | 7, .reg .d => .set7D
  | 7, .reg .e => .set7E
  | 7, .reg .h => .set7H
  | 7, .reg .l => .set7L
  | 7, .memHl => .set7MemHl
  | 7, .reg .a => .set7A

end Sys2Proof
end

