-- ==== Sys2Proof/OpcodeTable.lean ====
section
/-! DEFINITION. The rows of spec/opcode_table.json as data: length, `cycles`, `cycles_not_taken` and `flags_ZNHC` (30_encoding.md R200, R219, R220;
00_scope.md R12). The meanings do not read it; statements hold them against it. -/

namespace Sys2Proof

/-- What a row declares of one flag (R12): unchanged, constant 0 or 1, or set from the result. -/
inductive FlagRule where
  | keep
  | zero
  | one
  | result
deriving DecidableEq, Repr

/-- A row of the opcode table; `cycles` and `notTaken` are `none` where the table has null (R220). -/
structure Row where
  length : Nat
  cycles : Option Nat
  notTaken : Option Nat
  z : FlagRule
  n : FlagRule
  h : FlagRule
  c : FlagRule
deriving DecidableEq, Repr

namespace Row

/-- An unconditional row. -/
def plain (length cycles : Nat) (z n h c : FlagRule) : Row := ⟨length, some cycles, none, z, n, h, c⟩

/-- A conditional row, which writes no flag. -/
def branch (length cycles notTaken : Nat) : Row := ⟨length, some cycles, some notTaken, .keep, .keep, .keep, .keep⟩

/-- A row without a cost: an illegal opcode, or the prefix. -/
def costless (length : Nat) : Row := ⟨length, none, none, .keep, .keep, .keep, .keep⟩

end Row

/-- The row of each instruction. -/
def Instr.row : Instr → Row
  | .nop => .plain 1 4 .keep .keep .keep .keep
  | .ldBcN16 _ => .plain 3 12 .keep .keep .keep .keep
  | .ldMemBcA => .plain 1 8 .keep .keep .keep .keep
  | .incBc => .plain 1 8 .keep .keep .keep .keep
  | .incB => .plain 1 4 .result .zero .result .keep
  | .decB => .plain 1 4 .result .one .result .keep
  | .ldBN8 _ => .plain 2 8 .keep .keep .keep .keep
  | .rlca => .plain 1 4 .zero .zero .zero .result
  | .ldMemN16Sp _ => .plain 3 20 .keep .keep .keep .keep
  | .addHlBc => .plain 1 8 .keep .zero .result .result
  | .ldAMemBc => .plain 1 8 .keep .keep .keep .keep
  | .decBc => .plain 1 8 .keep .keep .keep .keep
  | .incC => .plain 1 4 .result .zero .result .keep
  | .decC => .plain 1 4 .result .one .result .keep
  | .ldCN8 _ => .plain 2 8 .keep .keep .keep .keep
  | .rrca => .plain 1 4 .zero .zero .zero .result
  | .stop _ => .plain 2 4 .keep .keep .keep .keep
  | .ldDeN16 _ => .plain 3 12 .keep .keep .keep .keep
  | .ldMemDeA => .plain 1 8 .keep .keep .keep .keep
  | .incDe => .plain 1 8 .keep .keep .keep .keep
  | .incD => .plain 1 4 .result .zero .result .keep
  | .decD => .plain 1 4 .result .one .result .keep
  | .ldDN8 _ => .plain 2 8 .keep .keep .keep .keep
  | .rla => .plain 1 4 .zero .zero .zero .result
  | .jrE8 _ => .plain 2 12 .keep .keep .keep .keep
  | .addHlDe => .plain 1 8 .keep .zero .result .result
  | .ldAMemDe => .plain 1 8 .keep .keep .keep .keep
  | .decDe => .plain 1 8 .keep .keep .keep .keep
  | .incE => .plain 1 4 .result .zero .result .keep
  | .decE => .plain 1 4 .result .one .result .keep
  | .ldEN8 _ => .plain 2 8 .keep .keep .keep .keep
  | .rra => .plain 1 4 .zero .zero .zero .result
  | .jrNzE8 _ => .branch 2 12 8
  | .ldHlN16 _ => .plain 3 12 .keep .keep .keep .keep
  | .ldMemHlIncA => .plain 1 8 .keep .keep .keep .keep
  | .incHl => .plain 1 8 .keep .keep .keep .keep
  | .incH => .plain 1 4 .result .zero .result .keep
  | .decH => .plain 1 4 .result .one .result .keep
  | .ldHN8 _ => .plain 2 8 .keep .keep .keep .keep
  | .daa => .plain 1 4 .result .keep .zero .result
  | .jrZE8 _ => .branch 2 12 8
  | .addHlHl => .plain 1 8 .keep .zero .result .result
  | .ldAMemHlInc => .plain 1 8 .keep .keep .keep .keep
  | .decHl => .plain 1 8 .keep .keep .keep .keep
  | .incL => .plain 1 4 .result .zero .result .keep
  | .decL => .plain 1 4 .result .one .result .keep
  | .ldLN8 _ => .plain 2 8 .keep .keep .keep .keep
  | .cpl => .plain 1 4 .keep .one .one .keep
  | .jrNcE8 _ => .branch 2 12 8
  | .ldSpN16 _ => .plain 3 12 .keep .keep .keep .keep
  | .ldMemHlDecA => .plain 1 8 .keep .keep .keep .keep
  | .incSp => .plain 1 8 .keep .keep .keep .keep
  | .incMemHl => .plain 1 12 .result .zero .result .keep
  | .decMemHl => .plain 1 12 .result .one .result .keep
  | .ldMemHlN8 _ => .plain 2 12 .keep .keep .keep .keep
  | .scf => .plain 1 4 .keep .zero .zero .one
  | .jrCE8 _ => .branch 2 12 8
  | .addHlSp => .plain 1 8 .keep .zero .result .result
  | .ldAMemHlDec => .plain 1 8 .keep .keep .keep .keep
  | .decSp => .plain 1 8 .keep .keep .keep .keep
  | .incA => .plain 1 4 .result .zero .result .keep
  | .decA => .plain 1 4 .result .one .result .keep
  | .ldAN8 _ => .plain 2 8 .keep .keep .keep .keep
  | .ccf => .plain 1 4 .keep .zero .zero .result
  | .ldBB => .plain 1 4 .keep .keep .keep .keep
  | .ldBC => .plain 1 4 .keep .keep .keep .keep
  | .ldBD => .plain 1 4 .keep .keep .keep .keep
  | .ldBE => .plain 1 4 .keep .keep .keep .keep
  | .ldBH => .plain 1 4 .keep .keep .keep .keep
  | .ldBL => .plain 1 4 .keep .keep .keep .keep
  | .ldBMemHl => .plain 1 8 .keep .keep .keep .keep
  | .ldBA => .plain 1 4 .keep .keep .keep .keep
  | .ldCB => .plain 1 4 .keep .keep .keep .keep
  | .ldCC => .plain 1 4 .keep .keep .keep .keep
  | .ldCD => .plain 1 4 .keep .keep .keep .keep
  | .ldCE => .plain 1 4 .keep .keep .keep .keep
  | .ldCH => .plain 1 4 .keep .keep .keep .keep
  | .ldCL => .plain 1 4 .keep .keep .keep .keep
  | .ldCMemHl => .plain 1 8 .keep .keep .keep .keep
  | .ldCA => .plain 1 4 .keep .keep .keep .keep
  | .ldDB => .plain 1 4 .keep .keep .keep .keep
  | .ldDC => .plain 1 4 .keep .keep .keep .keep
  | .ldDD => .plain 1 4 .keep .keep .keep .keep
  | .ldDE => .plain 1 4 .keep .keep .keep .keep
  | .ldDH => .plain 1 4 .keep .keep .keep .keep
  | .ldDL => .plain 1 4 .keep .keep .keep .keep
  | .ldDMemHl => .plain 1 8 .keep .keep .keep .keep
  | .ldDA => .plain 1 4 .keep .keep .keep .keep
  | .ldEB => .plain 1 4 .keep .keep .keep .keep
  | .ldEC => .plain 1 4 .keep .keep .keep .keep
  | .ldED => .plain 1 4 .keep .keep .keep .keep
  | .ldEE => .plain 1 4 .keep .keep .keep .keep
  | .ldEH => .plain 1 4 .keep .keep .keep .keep
  | .ldEL => .plain 1 4 .keep .keep .keep .keep
  | .ldEMemHl => .plain 1 8 .keep .keep .keep .keep
  | .ldEA => .plain 1 4 .keep .keep .keep .keep
  | .ldHB => .plain 1 4 .keep .keep .keep .keep
  | .ldHC => .plain 1 4 .keep .keep .keep .keep
  | .ldHD => .plain 1 4 .keep .keep .keep .keep
  | .ldHE => .plain 1 4 .keep .keep .keep .keep
  | .ldHH => .plain 1 4 .keep .keep .keep .keep
  | .ldHL => .plain 1 4 .keep .keep .keep .keep
  | .ldHMemHl => .plain 1 8 .keep .keep .keep .keep
  | .ldHA => .plain 1 4 .keep .keep .keep .keep
  | .ldLB => .plain 1 4 .keep .keep .keep .keep
  | .ldLC => .plain 1 4 .keep .keep .keep .keep
  | .ldLD => .plain 1 4 .keep .keep .keep .keep
  | .ldLE => .plain 1 4 .keep .keep .keep .keep
  | .ldLH => .plain 1 4 .keep .keep .keep .keep
  | .ldLL => .plain 1 4 .keep .keep .keep .keep
  | .ldLMemHl => .plain 1 8 .keep .keep .keep .keep
  | .ldLA => .plain 1 4 .keep .keep .keep .keep
  | .ldMemHlB => .plain 1 8 .keep .keep .keep .keep
  | .ldMemHlC => .plain 1 8 .keep .keep .keep .keep
  | .ldMemHlD => .plain 1 8 .keep .keep .keep .keep
  | .ldMemHlE => .plain 1 8 .keep .keep .keep .keep
  | .ldMemHlH => .plain 1 8 .keep .keep .keep .keep
  | .ldMemHlL => .plain 1 8 .keep .keep .keep .keep
  | .halt => .plain 1 4 .keep .keep .keep .keep
  | .ldMemHlA => .plain 1 8 .keep .keep .keep .keep
  | .ldAB => .plain 1 4 .keep .keep .keep .keep
  | .ldAC => .plain 1 4 .keep .keep .keep .keep
  | .ldAD => .plain 1 4 .keep .keep .keep .keep
  | .ldAE => .plain 1 4 .keep .keep .keep .keep
  | .ldAH => .plain 1 4 .keep .keep .keep .keep
  | .ldAL => .plain 1 4 .keep .keep .keep .keep
  | .ldAMemHl => .plain 1 8 .keep .keep .keep .keep
  | .ldAA => .plain 1 4 .keep .keep .keep .keep
  | .addAB => .plain 1 4 .result .zero .result .result
  | .addAC => .plain 1 4 .result .zero .result .result
  | .addAD => .plain 1 4 .result .zero .result .result
  | .addAE => .plain 1 4 .result .zero .result .result
  | .addAH => .plain 1 4 .result .zero .result .result
  | .addAL => .plain 1 4 .result .zero .result .result
  | .addAMemHl => .plain 1 8 .result .zero .result .result
  | .addAA => .plain 1 4 .result .zero .result .result
  | .adcAB => .plain 1 4 .result .zero .result .result
  | .adcAC => .plain 1 4 .result .zero .result .result
  | .adcAD => .plain 1 4 .result .zero .result .result
  | .adcAE => .plain 1 4 .result .zero .result .result
  | .adcAH => .plain 1 4 .result .zero .result .result
  | .adcAL => .plain 1 4 .result .zero .result .result
  | .adcAMemHl => .plain 1 8 .result .zero .result .result
  | .adcAA => .plain 1 4 .result .zero .result .result
  | .subB => .plain 1 4 .result .one .result .result
  | .subC => .plain 1 4 .result .one .result .result
  | .subD => .plain 1 4 .result .one .result .result
  | .subE => .plain 1 4 .result .one .result .result
  | .subH => .plain 1 4 .result .one .result .result
  | .subL => .plain 1 4 .result .one .result .result
  | .subMemHl => .plain 1 8 .result .one .result .result
  | .subA => .plain 1 4 .result .one .result .result
  | .sbcAB => .plain 1 4 .result .one .result .result
  | .sbcAC => .plain 1 4 .result .one .result .result
  | .sbcAD => .plain 1 4 .result .one .result .result
  | .sbcAE => .plain 1 4 .result .one .result .result
  | .sbcAH => .plain 1 4 .result .one .result .result
  | .sbcAL => .plain 1 4 .result .one .result .result
  | .sbcAMemHl => .plain 1 8 .result .one .result .result
  | .sbcAA => .plain 1 4 .result .one .result .result
  | .andB => .plain 1 4 .result .zero .one .zero
  | .andC => .plain 1 4 .result .zero .one .zero
  | .andD => .plain 1 4 .result .zero .one .zero
  | .andE => .plain 1 4 .result .zero .one .zero
  | .andH => .plain 1 4 .result .zero .one .zero
  | .andL => .plain 1 4 .result .zero .one .zero
  | .andMemHl => .plain 1 8 .result .zero .one .zero
  | .andA => .plain 1 4 .result .zero .one .zero
  | .xorB => .plain 1 4 .result .zero .zero .zero
  | .xorC => .plain 1 4 .result .zero .zero .zero
  | .xorD => .plain 1 4 .result .zero .zero .zero
  | .xorE => .plain 1 4 .result .zero .zero .zero
  | .xorH => .plain 1 4 .result .zero .zero .zero
  | .xorL => .plain 1 4 .result .zero .zero .zero
  | .xorMemHl => .plain 1 8 .result .zero .zero .zero
  | .xorA => .plain 1 4 .result .zero .zero .zero
  | .orB => .plain 1 4 .result .zero .zero .zero
  | .orC => .plain 1 4 .result .zero .zero .zero
  | .orD => .plain 1 4 .result .zero .zero .zero
  | .orE => .plain 1 4 .result .zero .zero .zero
  | .orH => .plain 1 4 .result .zero .zero .zero
  | .orL => .plain 1 4 .result .zero .zero .zero
  | .orMemHl => .plain 1 8 .result .zero .zero .zero
  | .orA => .plain 1 4 .result .zero .zero .zero
  | .cpB => .plain 1 4 .result .one .result .result
  | .cpC => .plain 1 4 .result .one .result .result
  | .cpD => .plain 1 4 .result .one .result .result
  | .cpE => .plain 1 4 .result .one .result .result
  | .cpH => .plain 1 4 .result .one .result .result
  | .cpL => .plain 1 4 .result .one .result .result
  | .cpMemHl => .plain 1 8 .result .one .result .result
  | .cpA => .plain 1 4 .result .one .result .result
  | .retNz => .branch 1 20 8
  | .popBc => .plain 1 12 .keep .keep .keep .keep
  | .jpNzN16 _ => .branch 3 16 12
  | .jpN16 _ => .plain 3 16 .keep .keep .keep .keep
  | .callNzN16 _ => .branch 3 24 12
  | .pushBc => .plain 1 16 .keep .keep .keep .keep
  | .addAN8 _ => .plain 2 8 .result .zero .result .result
  | .rst00 => .plain 1 16 .keep .keep .keep .keep
  | .retZ => .branch 1 20 8
  | .ret => .plain 1 16 .keep .keep .keep .keep
  | .jpZN16 _ => .branch 3 16 12
  | .prefixCb _ => .costless 2
  | .callZN16 _ => .branch 3 24 12
  | .callN16 _ => .plain 3 24 .keep .keep .keep .keep
  | .adcAN8 _ => .plain 2 8 .result .zero .result .result
  | .rst08 => .plain 1 16 .keep .keep .keep .keep
  | .retNc => .branch 1 20 8
  | .popDe => .plain 1 12 .keep .keep .keep .keep
  | .jpNcN16 _ => .branch 3 16 12
  | .illegalD3 => .costless 1
  | .callNcN16 _ => .branch 3 24 12
  | .pushDe => .plain 1 16 .keep .keep .keep .keep
  | .subN8 _ => .plain 2 8 .result .one .result .result
  | .rst10 => .plain 1 16 .keep .keep .keep .keep
  | .retC => .branch 1 20 8
  | .reti => .plain 1 16 .keep .keep .keep .keep
  | .jpCN16 _ => .branch 3 16 12
  | .illegalDB => .costless 1
  | .callCN16 _ => .branch 3 24 12
  | .illegalDD => .costless 1
  | .sbcAN8 _ => .plain 2 8 .result .one .result .result
  | .rst18 => .plain 1 16 .keep .keep .keep .keep
  | .ldhMemN8A _ => .plain 2 12 .keep .keep .keep .keep
  | .popHl => .plain 1 12 .keep .keep .keep .keep
  | .ldMemCA => .plain 1 8 .keep .keep .keep .keep
  | .illegalE3 => .costless 1
  | .illegalE4 => .costless 1
  | .pushHl => .plain 1 16 .keep .keep .keep .keep
  | .andN8 _ => .plain 2 8 .result .zero .one .zero
  | .rst20 => .plain 1 16 .keep .keep .keep .keep
  | .addSpE8 _ => .plain 2 16 .zero .zero .result .result
  | .jpHl => .plain 1 4 .keep .keep .keep .keep
  | .ldMemN16A _ => .plain 3 16 .keep .keep .keep .keep
  | .illegalEB => .costless 1
  | .illegalEC => .costless 1
  | .illegalED => .costless 1
  | .xorN8 _ => .plain 2 8 .result .zero .zero .zero
  | .rst28 => .plain 1 16 .keep .keep .keep .keep
  | .ldhAMemN8 _ => .plain 2 12 .keep .keep .keep .keep
  | .popAf => .plain 1 12 .result .result .result .result
  | .ldAMemC => .plain 1 8 .keep .keep .keep .keep
  | .di => .plain 1 4 .keep .keep .keep .keep
  | .illegalF4 => .costless 1
  | .pushAf => .plain 1 16 .keep .keep .keep .keep
  | .orN8 _ => .plain 2 8 .result .zero .zero .zero
  | .rst30 => .plain 1 16 .keep .keep .keep .keep
  | .ldHlSpE8 _ => .plain 2 12 .zero .zero .result .result
  | .ldSpHl => .plain 1 8 .keep .keep .keep .keep
  | .ldAMemN16 _ => .plain 3 16 .keep .keep .keep .keep
  | .ei => .plain 1 4 .keep .keep .keep .keep
  | .illegalFC => .costless 1
  | .illegalFD => .costless 1
  | .cpN8 _ => .plain 2 8 .result .one .result .result
  | .rst38 => .plain 1 16 .keep .keep .keep .keep
  | .rlcB => .plain 2 8 .result .zero .zero .result
  | .rlcC => .plain 2 8 .result .zero .zero .result
  | .rlcD => .plain 2 8 .result .zero .zero .result
  | .rlcE => .plain 2 8 .result .zero .zero .result
  | .rlcH => .plain 2 8 .result .zero .zero .result
  | .rlcL => .plain 2 8 .result .zero .zero .result
  | .rlcMemHl => .plain 2 16 .result .zero .zero .result
  | .rlcA => .plain 2 8 .result .zero .zero .result
  | .rrcB => .plain 2 8 .result .zero .zero .result
  | .rrcC => .plain 2 8 .result .zero .zero .result
  | .rrcD => .plain 2 8 .result .zero .zero .result
  | .rrcE => .plain 2 8 .result .zero .zero .result
  | .rrcH => .plain 2 8 .result .zero .zero .result
  | .rrcL => .plain 2 8 .result .zero .zero .result
  | .rrcMemHl => .plain 2 16 .result .zero .zero .result
  | .rrcA => .plain 2 8 .result .zero .zero .result
  | .rlB => .plain 2 8 .result .zero .zero .result
  | .rlC => .plain 2 8 .result .zero .zero .result
  | .rlD => .plain 2 8 .result .zero .zero .result
  | .rlE => .plain 2 8 .result .zero .zero .result
  | .rlH => .plain 2 8 .result .zero .zero .result
  | .rlL => .plain 2 8 .result .zero .zero .result
  | .rlMemHl => .plain 2 16 .result .zero .zero .result
  | .rlA => .plain 2 8 .result .zero .zero .result
  | .rrB => .plain 2 8 .result .zero .zero .result
  | .rrC => .plain 2 8 .result .zero .zero .result
  | .rrD => .plain 2 8 .result .zero .zero .result
  | .rrE => .plain 2 8 .result .zero .zero .result
  | .rrH => .plain 2 8 .result .zero .zero .result
  | .rrL => .plain 2 8 .result .zero .zero .result
  | .rrMemHl => .plain 2 16 .result .zero .zero .result
  | .rrA => .plain 2 8 .result .zero .zero .result
  | .slaB => .plain 2 8 .result .zero .zero .result
  | .slaC => .plain 2 8 .result .zero .zero .result
  | .slaD => .plain 2 8 .result .zero .zero .result
  | .slaE => .plain 2 8 .result .zero .zero .result
  | .slaH => .plain 2 8 .result .zero .zero .result
  | .slaL => .plain 2 8 .result .zero .zero .result
  | .slaMemHl => .plain 2 16 .result .zero .zero .result
  | .slaA => .plain 2 8 .result .zero .zero .result
  | .sraB => .plain 2 8 .result .zero .zero .result
  | .sraC => .plain 2 8 .result .zero .zero .result
  | .sraD => .plain 2 8 .result .zero .zero .result
  | .sraE => .plain 2 8 .result .zero .zero .result
  | .sraH => .plain 2 8 .result .zero .zero .result
  | .sraL => .plain 2 8 .result .zero .zero .result
  | .sraMemHl => .plain 2 16 .result .zero .zero .result
  | .sraA => .plain 2 8 .result .zero .zero .result
  | .swapB => .plain 2 8 .result .zero .zero .zero
  | .swapC => .plain 2 8 .result .zero .zero .zero
  | .swapD => .plain 2 8 .result .zero .zero .zero
  | .swapE => .plain 2 8 .result .zero .zero .zero
  | .swapH => .plain 2 8 .result .zero .zero .zero
  | .swapL => .plain 2 8 .result .zero .zero .zero
  | .swapMemHl => .plain 2 16 .result .zero .zero .zero
  | .swapA => .plain 2 8 .result .zero .zero .zero
  | .srlB => .plain 2 8 .result .zero .zero .result
  | .srlC => .plain 2 8 .result .zero .zero .result
  | .srlD => .plain 2 8 .result .zero .zero .result
  | .srlE => .plain 2 8 .result .zero .zero .result
  | .srlH => .plain 2 8 .result .zero .zero .result
  | .srlL => .plain 2 8 .result .zero .zero .result
  | .srlMemHl => .plain 2 16 .result .zero .zero .result
  | .srlA => .plain 2 8 .result .zero .zero .result
  | .bit0B => .plain 2 8 .result .zero .one .keep
  | .bit0C => .plain 2 8 .result .zero .one .keep
  | .bit0D => .plain 2 8 .result .zero .one .keep
  | .bit0E => .plain 2 8 .result .zero .one .keep
  | .bit0H => .plain 2 8 .result .zero .one .keep
  | .bit0L => .plain 2 8 .result .zero .one .keep
  | .bit0MemHl => .plain 2 16 .result .zero .one .keep
  | .bit0A => .plain 2 8 .result .zero .one .keep
  | .bit1B => .plain 2 8 .result .zero .one .keep
  | .bit1C => .plain 2 8 .result .zero .one .keep
  | .bit1D => .plain 2 8 .result .zero .one .keep
  | .bit1E => .plain 2 8 .result .zero .one .keep
  | .bit1H => .plain 2 8 .result .zero .one .keep
  | .bit1L => .plain 2 8 .result .zero .one .keep
  | .bit1MemHl => .plain 2 16 .result .zero .one .keep
  | .bit1A => .plain 2 8 .result .zero .one .keep
  | .bit2B => .plain 2 8 .result .zero .one .keep
  | .bit2C => .plain 2 8 .result .zero .one .keep
  | .bit2D => .plain 2 8 .result .zero .one .keep
  | .bit2E => .plain 2 8 .result .zero .one .keep
  | .bit2H => .plain 2 8 .result .zero .one .keep
  | .bit2L => .plain 2 8 .result .zero .one .keep
  | .bit2MemHl => .plain 2 16 .result .zero .one .keep
  | .bit2A => .plain 2 8 .result .zero .one .keep
  | .bit3B => .plain 2 8 .result .zero .one .keep
  | .bit3C => .plain 2 8 .result .zero .one .keep
  | .bit3D => .plain 2 8 .result .zero .one .keep
  | .bit3E => .plain 2 8 .result .zero .one .keep
  | .bit3H => .plain 2 8 .result .zero .one .keep
  | .bit3L => .plain 2 8 .result .zero .one .keep
  | .bit3MemHl => .plain 2 16 .result .zero .one .keep
  | .bit3A => .plain 2 8 .result .zero .one .keep
  | .bit4B => .plain 2 8 .result .zero .one .keep
  | .bit4C => .plain 2 8 .result .zero .one .keep
  | .bit4D => .plain 2 8 .result .zero .one .keep
  | .bit4E => .plain 2 8 .result .zero .one .keep
  | .bit4H => .plain 2 8 .result .zero .one .keep
  | .bit4L => .plain 2 8 .result .zero .one .keep
  | .bit4MemHl => .plain 2 16 .result .zero .one .keep
  | .bit4A => .plain 2 8 .result .zero .one .keep
  | .bit5B => .plain 2 8 .result .zero .one .keep
  | .bit5C => .plain 2 8 .result .zero .one .keep
  | .bit5D => .plain 2 8 .result .zero .one .keep
  | .bit5E => .plain 2 8 .result .zero .one .keep
  | .bit5H => .plain 2 8 .result .zero .one .keep
  | .bit5L => .plain 2 8 .result .zero .one .keep
  | .bit5MemHl => .plain 2 16 .result .zero .one .keep
  | .bit5A => .plain 2 8 .result .zero .one .keep
  | .bit6B => .plain 2 8 .result .zero .one .keep
  | .bit6C => .plain 2 8 .result .zero .one .keep
  | .bit6D => .plain 2 8 .result .zero .one .keep
  | .bit6E => .plain 2 8 .result .zero .one .keep
  | .bit6H => .plain 2 8 .result .zero .one .keep
  | .bit6L => .plain 2 8 .result .zero .one .keep
  | .bit6MemHl => .plain 2 16 .result .zero .one .keep
  | .bit6A => .plain 2 8 .result .zero .one .keep
  | .bit7B => .plain 2 8 .result .zero .one .keep
  | .bit7C => .plain 2 8 .result .zero .one .keep
  | .bit7D => .plain 2 8 .result .zero .one .keep
  | .bit7E => .plain 2 8 .result .zero .one .keep
  | .bit7H => .plain 2 8 .result .zero .one .keep
  | .bit7L => .plain 2 8 .result .zero .one .keep
  | .bit7MemHl => .plain 2 16 .result .zero .one .keep
  | .bit7A => .plain 2 8 .result .zero .one .keep
  | .res0B => .plain 2 8 .keep .keep .keep .keep
  | .res0C => .plain 2 8 .keep .keep .keep .keep
  | .res0D => .plain 2 8 .keep .keep .keep .keep
  | .res0E => .plain 2 8 .keep .keep .keep .keep
  | .res0H => .plain 2 8 .keep .keep .keep .keep
  | .res0L => .plain 2 8 .keep .keep .keep .keep
  | .res0MemHl => .plain 2 16 .keep .keep .keep .keep
  | .res0A => .plain 2 8 .keep .keep .keep .keep
  | .res1B => .plain 2 8 .keep .keep .keep .keep
  | .res1C => .plain 2 8 .keep .keep .keep .keep
  | .res1D => .plain 2 8 .keep .keep .keep .keep
  | .res1E => .plain 2 8 .keep .keep .keep .keep
  | .res1H => .plain 2 8 .keep .keep .keep .keep
  | .res1L => .plain 2 8 .keep .keep .keep .keep
  | .res1MemHl => .plain 2 16 .keep .keep .keep .keep
  | .res1A => .plain 2 8 .keep .keep .keep .keep
  | .res2B => .plain 2 8 .keep .keep .keep .keep
  | .res2C => .plain 2 8 .keep .keep .keep .keep
  | .res2D => .plain 2 8 .keep .keep .keep .keep
  | .res2E => .plain 2 8 .keep .keep .keep .keep
  | .res2H => .plain 2 8 .keep .keep .keep .keep
  | .res2L => .plain 2 8 .keep .keep .keep .keep
  | .res2MemHl => .plain 2 16 .keep .keep .keep .keep
  | .res2A => .plain 2 8 .keep .keep .keep .keep
  | .res3B => .plain 2 8 .keep .keep .keep .keep
  | .res3C => .plain 2 8 .keep .keep .keep .keep
  | .res3D => .plain 2 8 .keep .keep .keep .keep
  | .res3E => .plain 2 8 .keep .keep .keep .keep
  | .res3H => .plain 2 8 .keep .keep .keep .keep
  | .res3L => .plain 2 8 .keep .keep .keep .keep
  | .res3MemHl => .plain 2 16 .keep .keep .keep .keep
  | .res3A => .plain 2 8 .keep .keep .keep .keep
  | .res4B => .plain 2 8 .keep .keep .keep .keep
  | .res4C => .plain 2 8 .keep .keep .keep .keep
  | .res4D => .plain 2 8 .keep .keep .keep .keep
  | .res4E => .plain 2 8 .keep .keep .keep .keep
  | .res4H => .plain 2 8 .keep .keep .keep .keep
  | .res4L => .plain 2 8 .keep .keep .keep .keep
  | .res4MemHl => .plain 2 16 .keep .keep .keep .keep
  | .res4A => .plain 2 8 .keep .keep .keep .keep
  | .res5B => .plain 2 8 .keep .keep .keep .keep
  | .res5C => .plain 2 8 .keep .keep .keep .keep
  | .res5D => .plain 2 8 .keep .keep .keep .keep
  | .res5E => .plain 2 8 .keep .keep .keep .keep
  | .res5H => .plain 2 8 .keep .keep .keep .keep
  | .res5L => .plain 2 8 .keep .keep .keep .keep
  | .res5MemHl => .plain 2 16 .keep .keep .keep .keep
  | .res5A => .plain 2 8 .keep .keep .keep .keep
  | .res6B => .plain 2 8 .keep .keep .keep .keep
  | .res6C => .plain 2 8 .keep .keep .keep .keep
  | .res6D => .plain 2 8 .keep .keep .keep .keep
  | .res6E => .plain 2 8 .keep .keep .keep .keep
  | .res6H => .plain 2 8 .keep .keep .keep .keep
  | .res6L => .plain 2 8 .keep .keep .keep .keep
  | .res6MemHl => .plain 2 16 .keep .keep .keep .keep
  | .res6A => .plain 2 8 .keep .keep .keep .keep
  | .res7B => .plain 2 8 .keep .keep .keep .keep
  | .res7C => .plain 2 8 .keep .keep .keep .keep
  | .res7D => .plain 2 8 .keep .keep .keep .keep
  | .res7E => .plain 2 8 .keep .keep .keep .keep
  | .res7H => .plain 2 8 .keep .keep .keep .keep
  | .res7L => .plain 2 8 .keep .keep .keep .keep
  | .res7MemHl => .plain 2 16 .keep .keep .keep .keep
  | .res7A => .plain 2 8 .keep .keep .keep .keep
  | .set0B => .plain 2 8 .keep .keep .keep .keep
  | .set0C => .plain 2 8 .keep .keep .keep .keep
  | .set0D => .plain 2 8 .keep .keep .keep .keep
  | .set0E => .plain 2 8 .keep .keep .keep .keep
  | .set0H => .plain 2 8 .keep .keep .keep .keep
  | .set0L => .plain 2 8 .keep .keep .keep .keep
  | .set0MemHl => .plain 2 16 .keep .keep .keep .keep
  | .set0A => .plain 2 8 .keep .keep .keep .keep
  | .set1B => .plain 2 8 .keep .keep .keep .keep
  | .set1C => .plain 2 8 .keep .keep .keep .keep
  | .set1D => .plain 2 8 .keep .keep .keep .keep
  | .set1E => .plain 2 8 .keep .keep .keep .keep
  | .set1H => .plain 2 8 .keep .keep .keep .keep
  | .set1L => .plain 2 8 .keep .keep .keep .keep
  | .set1MemHl => .plain 2 16 .keep .keep .keep .keep
  | .set1A => .plain 2 8 .keep .keep .keep .keep
  | .set2B => .plain 2 8 .keep .keep .keep .keep
  | .set2C => .plain 2 8 .keep .keep .keep .keep
  | .set2D => .plain 2 8 .keep .keep .keep .keep
  | .set2E => .plain 2 8 .keep .keep .keep .keep
  | .set2H => .plain 2 8 .keep .keep .keep .keep
  | .set2L => .plain 2 8 .keep .keep .keep .keep
  | .set2MemHl => .plain 2 16 .keep .keep .keep .keep
  | .set2A => .plain 2 8 .keep .keep .keep .keep
  | .set3B => .plain 2 8 .keep .keep .keep .keep
  | .set3C => .plain 2 8 .keep .keep .keep .keep
  | .set3D => .plain 2 8 .keep .keep .keep .keep
  | .set3E => .plain 2 8 .keep .keep .keep .keep
  | .set3H => .plain 2 8 .keep .keep .keep .keep
  | .set3L => .plain 2 8 .keep .keep .keep .keep
  | .set3MemHl => .plain 2 16 .keep .keep .keep .keep
  | .set3A => .plain 2 8 .keep .keep .keep .keep
  | .set4B => .plain 2 8 .keep .keep .keep .keep
  | .set4C => .plain 2 8 .keep .keep .keep .keep
  | .set4D => .plain 2 8 .keep .keep .keep .keep
  | .set4E => .plain 2 8 .keep .keep .keep .keep
  | .set4H => .plain 2 8 .keep .keep .keep .keep
  | .set4L => .plain 2 8 .keep .keep .keep .keep
  | .set4MemHl => .plain 2 16 .keep .keep .keep .keep
  | .set4A => .plain 2 8 .keep .keep .keep .keep
  | .set5B => .plain 2 8 .keep .keep .keep .keep
  | .set5C => .plain 2 8 .keep .keep .keep .keep
  | .set5D => .plain 2 8 .keep .keep .keep .keep
  | .set5E => .plain 2 8 .keep .keep .keep .keep
  | .set5H => .plain 2 8 .keep .keep .keep .keep
  | .set5L => .plain 2 8 .keep .keep .keep .keep
  | .set5MemHl => .plain 2 16 .keep .keep .keep .keep
  | .set5A => .plain 2 8 .keep .keep .keep .keep
  | .set6B => .plain 2 8 .keep .keep .keep .keep
  | .set6C => .plain 2 8 .keep .keep .keep .keep
  | .set6D => .plain 2 8 .keep .keep .keep .keep
  | .set6E => .plain 2 8 .keep .keep .keep .keep
  | .set6H => .plain 2 8 .keep .keep .keep .keep
  | .set6L => .plain 2 8 .keep .keep .keep .keep
  | .set6MemHl => .plain 2 16 .keep .keep .keep .keep
  | .set6A => .plain 2 8 .keep .keep .keep .keep
  | .set7B => .plain 2 8 .keep .keep .keep .keep
  | .set7C => .plain 2 8 .keep .keep .keep .keep
  | .set7D => .plain 2 8 .keep .keep .keep .keep
  | .set7E => .plain 2 8 .keep .keep .keep .keep
  | .set7H => .plain 2 8 .keep .keep .keep .keep
  | .set7L => .plain 2 8 .keep .keep .keep .keep
  | .set7MemHl => .plain 2 16 .keep .keep .keep .keep
  | .set7A => .plain 2 8 .keep .keep .keep .keep

end Sys2Proof
end

