-- ==== Sys2Proof/WellFormed.lean ====
section
/-! DEFINITION. Which terms of `Instr` are complete instructions. Operand fields have exact widths by their types, so the one check left is
that the prefix byte 0xCB "is not an operation itself" (30_encoding.md R217, 45_system.md R558): its two bytes are the
secondary row the second byte selects. -/

namespace Sys2Proof

/-- Whether a row is the prefix: the one two-byte row without a cost (R220). -/
def Row.isPrefix (r : Row) : Bool := r.cycles.isNone && r.length == 2

/-- A complete instruction of the block: every row but the prefix. -/
def Instr.wf (i : Instr) : Bool := !i.row.isPrefix

end Sys2Proof
end

