-- ==== Sys2Proof/Decode.lean ====
section
/-! DEFINITION. The decoder (30_encoding.md R200 to R219): the primary map of 30_encoding.md §6 row by row, the 0xCB map of §7 row by row, a total
decoder on bytes, and after it the encoder written from the `match` column of the opcode table. -/

namespace Sys2Proof

/-- What an opcode byte selects (R215, R217, R219): an instruction, an instruction that takes an immediate, or the secondary map. -/
inductive Entry where
  | plain (i : Instr)
  | imm8 (f : Byte → Instr)
  | imm16 (f : Word → Instr)
  | prefixed

/-- Row 0x of the primary map. -/
def primaryRow0 : List Entry :=
  [ .plain .nop
  , .imm16 .ldBcN16
  , .plain .ldMemBcA
  , .plain .incBc
  , .plain .incB
  , .plain .decB
  , .imm8 .ldBN8
  , .plain .rlca
  , .imm16 .ldMemN16Sp
  , .plain .addHlBc
  , .plain .ldAMemBc
  , .plain .decBc
  , .plain .incC
  , .plain .decC
  , .imm8 .ldCN8
  , .plain .rrca ]

/-- Row 1x of the primary map. -/
def primaryRow1 : List Entry :=
  [ .imm8 .stop
  , .imm16 .ldDeN16
  , .plain .ldMemDeA
  , .plain .incDe
  , .plain .incD
  , .plain .decD
  , .imm8 .ldDN8
  , .plain .rla
  , .imm8 .jrE8
  , .plain .addHlDe
  , .plain .ldAMemDe
  , .plain .decDe
  , .plain .incE
  , .plain .decE
  , .imm8 .ldEN8
  , .plain .rra ]

/-- Row 2x of the primary map. -/
def primaryRow2 : List Entry :=
  [ .imm8 .jrNzE8
  , .imm16 .ldHlN16
  , .plain .ldMemHlIncA
  , .plain .incHl
  , .plain .incH
  , .plain .decH
  , .imm8 .ldHN8
  , .plain .daa
  , .imm8 .jrZE8
  , .plain .addHlHl
  , .plain .ldAMemHlInc
  , .plain .decHl
  , .plain .incL
  , .plain .decL
  , .imm8 .ldLN8
  , .plain .cpl ]

/-- Row 3x of the primary map. -/
def primaryRow3 : List Entry :=
  [ .imm8 .jrNcE8
  , .imm16 .ldSpN16
  , .plain .ldMemHlDecA
  , .plain .incSp
  , .plain .incMemHl
  , .plain .decMemHl
  , .imm8 .ldMemHlN8
  , .plain .scf
  , .imm8 .jrCE8
  , .plain .addHlSp
  , .plain .ldAMemHlDec
  , .plain .decSp
  , .plain .incA
  , .plain .decA
  , .imm8 .ldAN8
  , .plain .ccf ]

/-- Row 4x of the primary map. -/
def primaryRow4 : List Entry :=
  [ .plain .ldBB
  , .plain .ldBC
  , .plain .ldBD
  , .plain .ldBE
  , .plain .ldBH
  , .plain .ldBL
  , .plain .ldBMemHl
  , .plain .ldBA
  , .plain .ldCB
  , .plain .ldCC
  , .plain .ldCD
  , .plain .ldCE
  , .plain .ldCH
  , .plain .ldCL
  , .plain .ldCMemHl
  , .plain .ldCA ]

/-- Row 5x of the primary map. -/
def primaryRow5 : List Entry :=
  [ .plain .ldDB
  , .plain .ldDC
  , .plain .ldDD
  , .plain .ldDE
  , .plain .ldDH
  , .plain .ldDL
  , .plain .ldDMemHl
  , .plain .ldDA
  , .plain .ldEB
  , .plain .ldEC
  , .plain .ldED
  , .plain .ldEE
  , .plain .ldEH
  , .plain .ldEL
  , .plain .ldEMemHl
  , .plain .ldEA ]

/-- Row 6x of the primary map. -/
def primaryRow6 : List Entry :=
  [ .plain .ldHB
  , .plain .ldHC
  , .plain .ldHD
  , .plain .ldHE
  , .plain .ldHH
  , .plain .ldHL
  , .plain .ldHMemHl
  , .plain .ldHA
  , .plain .ldLB
  , .plain .ldLC
  , .plain .ldLD
  , .plain .ldLE
  , .plain .ldLH
  , .plain .ldLL
  , .plain .ldLMemHl
  , .plain .ldLA ]

/-- Row 7x of the primary map. -/
def primaryRow7 : List Entry :=
  [ .plain .ldMemHlB
  , .plain .ldMemHlC
  , .plain .ldMemHlD
  , .plain .ldMemHlE
  , .plain .ldMemHlH
  , .plain .ldMemHlL
  , .plain .halt
  , .plain .ldMemHlA
  , .plain .ldAB
  , .plain .ldAC
  , .plain .ldAD
  , .plain .ldAE
  , .plain .ldAH
  , .plain .ldAL
  , .plain .ldAMemHl
  , .plain .ldAA ]

/-- Row 8x of the primary map. -/
def primaryRow8 : List Entry :=
  [ .plain .addAB
  , .plain .addAC
  , .plain .addAD
  , .plain .addAE
  , .plain .addAH
  , .plain .addAL
  , .plain .addAMemHl
  , .plain .addAA
  , .plain .adcAB
  , .plain .adcAC
  , .plain .adcAD
  , .plain .adcAE
  , .plain .adcAH
  , .plain .adcAL
  , .plain .adcAMemHl
  , .plain .adcAA ]

/-- Row 9x of the primary map. -/
def primaryRow9 : List Entry :=
  [ .plain .subB
  , .plain .subC
  , .plain .subD
  , .plain .subE
  , .plain .subH
  , .plain .subL
  , .plain .subMemHl
  , .plain .subA
  , .plain .sbcAB
  , .plain .sbcAC
  , .plain .sbcAD
  , .plain .sbcAE
  , .plain .sbcAH
  , .plain .sbcAL
  , .plain .sbcAMemHl
  , .plain .sbcAA ]

/-- Row Ax of the primary map. -/
def primaryRowA : List Entry :=
  [ .plain .andB
  , .plain .andC
  , .plain .andD
  , .plain .andE
  , .plain .andH
  , .plain .andL
  , .plain .andMemHl
  , .plain .andA
  , .plain .xorB
  , .plain .xorC
  , .plain .xorD
  , .plain .xorE
  , .plain .xorH
  , .plain .xorL
  , .plain .xorMemHl
  , .plain .xorA ]

/-- Row Bx of the primary map. -/
def primaryRowB : List Entry :=
  [ .plain .orB
  , .plain .orC
  , .plain .orD
  , .plain .orE
  , .plain .orH
  , .plain .orL
  , .plain .orMemHl
  , .plain .orA
  , .plain .cpB
  , .plain .cpC
  , .plain .cpD
  , .plain .cpE
  , .plain .cpH
  , .plain .cpL
  , .plain .cpMemHl
  , .plain .cpA ]

/-- Row Cx of the primary map. -/
def primaryRowC : List Entry :=
  [ .plain .retNz
  , .plain .popBc
  , .imm16 .jpNzN16
  , .imm16 .jpN16
  , .imm16 .callNzN16
  , .plain .pushBc
  , .imm8 .addAN8
  , .plain .rst00
  , .plain .retZ
  , .plain .ret
  , .imm16 .jpZN16
  , .prefixed
  , .imm16 .callZN16
  , .imm16 .callN16
  , .imm8 .adcAN8
  , .plain .rst08 ]

/-- Row Dx of the primary map. -/
def primaryRowD : List Entry :=
  [ .plain .retNc
  , .plain .popDe
  , .imm16 .jpNcN16
  , .plain .illegalD3
  , .imm16 .callNcN16
  , .plain .pushDe
  , .imm8 .subN8
  , .plain .rst10
  , .plain .retC
  , .plain .reti
  , .imm16 .jpCN16
  , .plain .illegalDB
  , .imm16 .callCN16
  , .plain .illegalDD
  , .imm8 .sbcAN8
  , .plain .rst18 ]

/-- Row Ex of the primary map. -/
def primaryRowE : List Entry :=
  [ .imm8 .ldhMemN8A
  , .plain .popHl
  , .plain .ldMemCA
  , .plain .illegalE3
  , .plain .illegalE4
  , .plain .pushHl
  , .imm8 .andN8
  , .plain .rst20
  , .imm8 .addSpE8
  , .plain .jpHl
  , .imm16 .ldMemN16A
  , .plain .illegalEB
  , .plain .illegalEC
  , .plain .illegalED
  , .imm8 .xorN8
  , .plain .rst28 ]

/-- Row Fx of the primary map. -/
def primaryRowF : List Entry :=
  [ .imm8 .ldhAMemN8
  , .plain .popAf
  , .plain .ldAMemC
  , .plain .di
  , .plain .illegalF4
  , .plain .pushAf
  , .imm8 .orN8
  , .plain .rst30
  , .imm8 .ldHlSpE8
  , .plain .ldSpHl
  , .imm16 .ldAMemN16
  , .plain .ei
  , .plain .illegalFC
  , .plain .illegalFD
  , .imm8 .cpN8
  , .plain .rst38 ]

/-- The primary map (30_encoding.md §6), one entry for each opcode byte. -/
def primaryMap : List (List Entry) :=
  [primaryRow0, primaryRow1, primaryRow2, primaryRow3, primaryRow4, primaryRow5, primaryRow6, primaryRow7, primaryRow8, primaryRow9, primaryRowA, primaryRowB, primaryRowC, primaryRowD, primaryRowE, primaryRowF]

/-- Row 0x of the 0xCB map. -/
def secondaryRow0 : List Instr :=
  [ .rlcB, .rlcC, .rlcD, .rlcE, .rlcH, .rlcL, .rlcMemHl, .rlcA
  , .rrcB, .rrcC, .rrcD, .rrcE, .rrcH, .rrcL, .rrcMemHl, .rrcA ]

/-- Row 1x of the 0xCB map. -/
def secondaryRow1 : List Instr :=
  [ .rlB, .rlC, .rlD, .rlE, .rlH, .rlL, .rlMemHl, .rlA
  , .rrB, .rrC, .rrD, .rrE, .rrH, .rrL, .rrMemHl, .rrA ]

/-- Row 2x of the 0xCB map. -/
def secondaryRow2 : List Instr :=
  [ .slaB, .slaC, .slaD, .slaE, .slaH, .slaL, .slaMemHl, .slaA
  , .sraB, .sraC, .sraD, .sraE, .sraH, .sraL, .sraMemHl, .sraA ]

/-- Row 3x of the 0xCB map. -/
def secondaryRow3 : List Instr :=
  [ .swapB, .swapC, .swapD, .swapE, .swapH, .swapL, .swapMemHl, .swapA
  , .srlB, .srlC, .srlD, .srlE, .srlH, .srlL, .srlMemHl, .srlA ]

/-- Row 4x of the 0xCB map. -/
def secondaryRow4 : List Instr :=
  [ .bit0B, .bit0C, .bit0D, .bit0E, .bit0H, .bit0L, .bit0MemHl, .bit0A
  , .bit1B, .bit1C, .bit1D, .bit1E, .bit1H, .bit1L, .bit1MemHl, .bit1A ]

/-- Row 5x of the 0xCB map. -/
def secondaryRow5 : List Instr :=
  [ .bit2B, .bit2C, .bit2D, .bit2E, .bit2H, .bit2L, .bit2MemHl, .bit2A
  , .bit3B, .bit3C, .bit3D, .bit3E, .bit3H, .bit3L, .bit3MemHl, .bit3A ]

/-- Row 6x of the 0xCB map. -/
def secondaryRow6 : List Instr :=
  [ .bit4B, .bit4C, .bit4D, .bit4E, .bit4H, .bit4L, .bit4MemHl, .bit4A
  , .bit5B, .bit5C, .bit5D, .bit5E, .bit5H, .bit5L, .bit5MemHl, .bit5A ]

/-- Row 7x of the 0xCB map. -/
def secondaryRow7 : List Instr :=
  [ .bit6B, .bit6C, .bit6D, .bit6E, .bit6H, .bit6L, .bit6MemHl, .bit6A
  , .bit7B, .bit7C, .bit7D, .bit7E, .bit7H, .bit7L, .bit7MemHl, .bit7A ]

/-- Row 8x of the 0xCB map. -/
def secondaryRow8 : List Instr :=
  [ .res0B, .res0C, .res0D, .res0E, .res0H, .res0L, .res0MemHl, .res0A
  , .res1B, .res1C, .res1D, .res1E, .res1H, .res1L, .res1MemHl, .res1A ]

/-- Row 9x of the 0xCB map. -/
def secondaryRow9 : List Instr :=
  [ .res2B, .res2C, .res2D, .res2E, .res2H, .res2L, .res2MemHl, .res2A
  , .res3B, .res3C, .res3D, .res3E, .res3H, .res3L, .res3MemHl, .res3A ]

/-- Row Ax of the 0xCB map. -/
def secondaryRowA : List Instr :=
  [ .res4B, .res4C, .res4D, .res4E, .res4H, .res4L, .res4MemHl, .res4A
  , .res5B, .res5C, .res5D, .res5E, .res5H, .res5L, .res5MemHl, .res5A ]

/-- Row Bx of the 0xCB map. -/
def secondaryRowB : List Instr :=
  [ .res6B, .res6C, .res6D, .res6E, .res6H, .res6L, .res6MemHl, .res6A
  , .res7B, .res7C, .res7D, .res7E, .res7H, .res7L, .res7MemHl, .res7A ]

/-- Row Cx of the 0xCB map. -/
def secondaryRowC : List Instr :=
  [ .set0B, .set0C, .set0D, .set0E, .set0H, .set0L, .set0MemHl, .set0A
  , .set1B, .set1C, .set1D, .set1E, .set1H, .set1L, .set1MemHl, .set1A ]

/-- Row Dx of the 0xCB map. -/
def secondaryRowD : List Instr :=
  [ .set2B, .set2C, .set2D, .set2E, .set2H, .set2L, .set2MemHl, .set2A
  , .set3B, .set3C, .set3D, .set3E, .set3H, .set3L, .set3MemHl, .set3A ]

/-- Row Ex of the 0xCB map. -/
def secondaryRowE : List Instr :=
  [ .set4B, .set4C, .set4D, .set4E, .set4H, .set4L, .set4MemHl, .set4A
  , .set5B, .set5C, .set5D, .set5E, .set5H, .set5L, .set5MemHl, .set5A ]

/-- Row Fx of the 0xCB map. -/
def secondaryRowF : List Instr :=
  [ .set6B, .set6C, .set6D, .set6E, .set6H, .set6L, .set6MemHl, .set6A
  , .set7B, .set7C, .set7D, .set7E, .set7H, .set7L, .set7MemHl, .set7A ]

/-- The 0xCB map (30_encoding.md §7), one instruction for each second byte. -/
def secondaryMap : List (List Instr) :=
  [secondaryRow0, secondaryRow1, secondaryRow2, secondaryRow3, secondaryRow4, secondaryRow5, secondaryRow6, secondaryRow7, secondaryRow8, secondaryRow9, secondaryRowA, secondaryRowB, secondaryRowC, secondaryRowD, secondaryRowE, secondaryRowF]

/-- The primary entry of an opcode byte (R215). -/
def primary (op : Byte) : Entry :=
  (primaryMap.getD (op.toNat / 16) []).getD (op.toNat % 16) (.plain .nop)

/-- The instruction a second byte selects (R217, R600); every second byte is defined. -/
def secondary (cb : Byte) : Instr :=
  (secondaryMap.getD (cb.toNat / 16) []).getD (cb.toNat % 16) .nop

/-- The instruction at three consecutive bytes; bytes past its length are not looked at (R201, R219). -/
def Entry.instr (entry : Entry) (b1 b2 : Byte) : Instr :=
  match entry with
  | .plain i => i
  | .imm8 f => f b1
  | .imm16 f => f (b2 ++ b1)
  | .prefixed => secondary b1

/-- The length an opcode byte tells (R219). -/
def Entry.length : Entry → Nat
  | .plain _ => 1
  | .imm8 _ => 2
  | .imm16 _ => 3
  | .prefixed => 2

/-- Why bytes are no instruction. -/
inductive DecodeError where
  /-- There is no opcode byte. -/
  | empty
  /-- The bytes end inside the instruction that starts with this opcode. -/
  | truncated (op : Byte)
deriving DecidableEq, Repr

/-- Decodes the first instruction of a byte string and answers it with the bytes after it. -/
def decode : List Byte → Except DecodeError (Instr × List Byte)
  | [] => .error .empty
  | op :: rest =>
    match primary op, rest with
    | .plain i, rest => .ok (i, rest)
    | .imm8 f, n :: rest => .ok (f n, rest)
    | .imm16 f, lo :: hi :: rest => .ok (f (hi ++ lo), rest)
    | .prefixed, cb :: rest => .ok (secondary cb, rest)
    | _, _ => .error (.truncated op)

/-- The first byte of a little-endian word (R201). -/
def encodeLow (v : Word) : Byte := v.extractLsb' 0 8

/-- The second byte of a little-endian word (R201). -/
def encodeHigh (v : Word) : Byte := v.extractLsb' 8 8

/-- The bytes of an instruction, in the order they are stored (R200, R201). -/
def encode : Instr → List Byte
  | .nop => [0x00]
  | .ldBcN16 nn => [0x01, encodeLow nn, encodeHigh nn]
  | .ldMemBcA => [0x02]
  | .incBc => [0x03]
  | .incB => [0x04]
  | .decB => [0x05]
  | .ldBN8 n => [0x06, n]
  | .rlca => [0x07]
  | .ldMemN16Sp nn => [0x08, encodeLow nn, encodeHigh nn]
  | .addHlBc => [0x09]
  | .ldAMemBc => [0x0A]
  | .decBc => [0x0B]
  | .incC => [0x0C]
  | .decC => [0x0D]
  | .ldCN8 n => [0x0E, n]
  | .rrca => [0x0F]
  | .stop n => [0x10, n]
  | .ldDeN16 nn => [0x11, encodeLow nn, encodeHigh nn]
  | .ldMemDeA => [0x12]
  | .incDe => [0x13]
  | .incD => [0x14]
  | .decD => [0x15]
  | .ldDN8 n => [0x16, n]
  | .rla => [0x17]
  | .jrE8 e => [0x18, e]
  | .addHlDe => [0x19]
  | .ldAMemDe => [0x1A]
  | .decDe => [0x1B]
  | .incE => [0x1C]
  | .decE => [0x1D]
  | .ldEN8 n => [0x1E, n]
  | .rra => [0x1F]
  | .jrNzE8 e => [0x20, e]
  | .ldHlN16 nn => [0x21, encodeLow nn, encodeHigh nn]
  | .ldMemHlIncA => [0x22]
  | .incHl => [0x23]
  | .incH => [0x24]
  | .decH => [0x25]
  | .ldHN8 n => [0x26, n]
  | .daa => [0x27]
  | .jrZE8 e => [0x28, e]
  | .addHlHl => [0x29]
  | .ldAMemHlInc => [0x2A]
  | .decHl => [0x2B]
  | .incL => [0x2C]
  | .decL => [0x2D]
  | .ldLN8 n => [0x2E, n]
  | .cpl => [0x2F]
  | .jrNcE8 e => [0x30, e]
  | .ldSpN16 nn => [0x31, encodeLow nn, encodeHigh nn]
  | .ldMemHlDecA => [0x32]
  | .incSp => [0x33]
  | .incMemHl => [0x34]
  | .decMemHl => [0x35]
  | .ldMemHlN8 n => [0x36, n]
  | .scf => [0x37]
  | .jrCE8 e => [0x38, e]
  | .addHlSp => [0x39]
  | .ldAMemHlDec => [0x3A]
  | .decSp => [0x3B]
  | .incA => [0x3C]
  | .decA => [0x3D]
  | .ldAN8 n => [0x3E, n]
  | .ccf => [0x3F]
  | .ldBB => [0x40]
  | .ldBC => [0x41]
  | .ldBD => [0x42]
  | .ldBE => [0x43]
  | .ldBH => [0x44]
  | .ldBL => [0x45]
  | .ldBMemHl => [0x46]
  | .ldBA => [0x47]
  | .ldCB => [0x48]
  | .ldCC => [0x49]
  | .ldCD => [0x4A]
  | .ldCE => [0x4B]
  | .ldCH => [0x4C]
  | .ldCL => [0x4D]
  | .ldCMemHl => [0x4E]
  | .ldCA => [0x4F]
  | .ldDB => [0x50]
  | .ldDC => [0x51]
  | .ldDD => [0x52]
  | .ldDE => [0x53]
  | .ldDH => [0x54]
  | .ldDL => [0x55]
  | .ldDMemHl => [0x56]
  | .ldDA => [0x57]
  | .ldEB => [0x58]
  | .ldEC => [0x59]
  | .ldED => [0x5A]
  | .ldEE => [0x5B]
  | .ldEH => [0x5C]
  | .ldEL => [0x5D]
  | .ldEMemHl => [0x5E]
  | .ldEA => [0x5F]
  | .ldHB => [0x60]
  | .ldHC => [0x61]
  | .ldHD => [0x62]
  | .ldHE => [0x63]
  | .ldHH => [0x64]
  | .ldHL => [0x65]
  | .ldHMemHl => [0x66]
  | .ldHA => [0x67]
  | .ldLB => [0x68]
  | .ldLC => [0x69]
  | .ldLD => [0x6A]
  | .ldLE => [0x6B]
  | .ldLH => [0x6C]
  | .ldLL => [0x6D]
  | .ldLMemHl => [0x6E]
  | .ldLA => [0x6F]
  | .ldMemHlB => [0x70]
  | .ldMemHlC => [0x71]
  | .ldMemHlD => [0x72]
  | .ldMemHlE => [0x73]
  | .ldMemHlH => [0x74]
  | .ldMemHlL => [0x75]
  | .halt => [0x76]
  | .ldMemHlA => [0x77]
  | .ldAB => [0x78]
  | .ldAC => [0x79]
  | .ldAD => [0x7A]
  | .ldAE => [0x7B]
  | .ldAH => [0x7C]
  | .ldAL => [0x7D]
  | .ldAMemHl => [0x7E]
  | .ldAA => [0x7F]
  | .addAB => [0x80]
  | .addAC => [0x81]
  | .addAD => [0x82]
  | .addAE => [0x83]
  | .addAH => [0x84]
  | .addAL => [0x85]
  | .addAMemHl => [0x86]
  | .addAA => [0x87]
  | .adcAB => [0x88]
  | .adcAC => [0x89]
  | .adcAD => [0x8A]
  | .adcAE => [0x8B]
  | .adcAH => [0x8C]
  | .adcAL => [0x8D]
  | .adcAMemHl => [0x8E]
  | .adcAA => [0x8F]
  | .subB => [0x90]
  | .subC => [0x91]
  | .subD => [0x92]
  | .subE => [0x93]
  | .subH => [0x94]
  | .subL => [0x95]
  | .subMemHl => [0x96]
  | .subA => [0x97]
  | .sbcAB => [0x98]
  | .sbcAC => [0x99]
  | .sbcAD => [0x9A]
  | .sbcAE => [0x9B]
  | .sbcAH => [0x9C]
  | .sbcAL => [0x9D]
  | .sbcAMemHl => [0x9E]
  | .sbcAA => [0x9F]
  | .andB => [0xA0]
  | .andC => [0xA1]
  | .andD => [0xA2]
  | .andE => [0xA3]
  | .andH => [0xA4]
  | .andL => [0xA5]
  | .andMemHl => [0xA6]
  | .andA => [0xA7]
  | .xorB => [0xA8]
  | .xorC => [0xA9]
  | .xorD => [0xAA]
  | .xorE => [0xAB]
  | .xorH => [0xAC]
  | .xorL => [0xAD]
  | .xorMemHl => [0xAE]
  | .xorA => [0xAF]
  | .orB => [0xB0]
  | .orC => [0xB1]
  | .orD => [0xB2]
  | .orE => [0xB3]
  | .orH => [0xB4]
  | .orL => [0xB5]
  | .orMemHl => [0xB6]
  | .orA => [0xB7]
  | .cpB => [0xB8]
  | .cpC => [0xB9]
  | .cpD => [0xBA]
  | .cpE => [0xBB]
  | .cpH => [0xBC]
  | .cpL => [0xBD]
  | .cpMemHl => [0xBE]
  | .cpA => [0xBF]
  | .retNz => [0xC0]
  | .popBc => [0xC1]
  | .jpNzN16 nn => [0xC2, encodeLow nn, encodeHigh nn]
  | .jpN16 nn => [0xC3, encodeLow nn, encodeHigh nn]
  | .callNzN16 nn => [0xC4, encodeLow nn, encodeHigh nn]
  | .pushBc => [0xC5]
  | .addAN8 n => [0xC6, n]
  | .rst00 => [0xC7]
  | .retZ => [0xC8]
  | .ret => [0xC9]
  | .jpZN16 nn => [0xCA, encodeLow nn, encodeHigh nn]
  | .prefixCb cb => [0xCB, cb]
  | .callZN16 nn => [0xCC, encodeLow nn, encodeHigh nn]
  | .callN16 nn => [0xCD, encodeLow nn, encodeHigh nn]
  | .adcAN8 n => [0xCE, n]
  | .rst08 => [0xCF]
  | .retNc => [0xD0]
  | .popDe => [0xD1]
  | .jpNcN16 nn => [0xD2, encodeLow nn, encodeHigh nn]
  | .illegalD3 => [0xD3]
  | .callNcN16 nn => [0xD4, encodeLow nn, encodeHigh nn]
  | .pushDe => [0xD5]
  | .subN8 n => [0xD6, n]
  | .rst10 => [0xD7]
  | .retC => [0xD8]
  | .reti => [0xD9]
  | .jpCN16 nn => [0xDA, encodeLow nn, encodeHigh nn]
  | .illegalDB => [0xDB]
  | .callCN16 nn => [0xDC, encodeLow nn, encodeHigh nn]
  | .illegalDD => [0xDD]
  | .sbcAN8 n => [0xDE, n]
  | .rst18 => [0xDF]
  | .ldhMemN8A n => [0xE0, n]
  | .popHl => [0xE1]
  | .ldMemCA => [0xE2]
  | .illegalE3 => [0xE3]
  | .illegalE4 => [0xE4]
  | .pushHl => [0xE5]
  | .andN8 n => [0xE6, n]
  | .rst20 => [0xE7]
  | .addSpE8 e => [0xE8, e]
  | .jpHl => [0xE9]
  | .ldMemN16A nn => [0xEA, encodeLow nn, encodeHigh nn]
  | .illegalEB => [0xEB]
  | .illegalEC => [0xEC]
  | .illegalED => [0xED]
  | .xorN8 n => [0xEE, n]
  | .rst28 => [0xEF]
  | .ldhAMemN8 n => [0xF0, n]
  | .popAf => [0xF1]
  | .ldAMemC => [0xF2]
  | .di => [0xF3]
  | .illegalF4 => [0xF4]
  | .pushAf => [0xF5]
  | .orN8 n => [0xF6, n]
  | .rst30 => [0xF7]
  | .ldHlSpE8 e => [0xF8, e]
  | .ldSpHl => [0xF9]
  | .ldAMemN16 nn => [0xFA, encodeLow nn, encodeHigh nn]
  | .ei => [0xFB]
  | .illegalFC => [0xFC]
  | .illegalFD => [0xFD]
  | .cpN8 n => [0xFE, n]
  | .rst38 => [0xFF]
  | .rlcB => [0xCB, 0x00]
  | .rlcC => [0xCB, 0x01]
  | .rlcD => [0xCB, 0x02]
  | .rlcE => [0xCB, 0x03]
  | .rlcH => [0xCB, 0x04]
  | .rlcL => [0xCB, 0x05]
  | .rlcMemHl => [0xCB, 0x06]
  | .rlcA => [0xCB, 0x07]
  | .rrcB => [0xCB, 0x08]
  | .rrcC => [0xCB, 0x09]
  | .rrcD => [0xCB, 0x0A]
  | .rrcE => [0xCB, 0x0B]
  | .rrcH => [0xCB, 0x0C]
  | .rrcL => [0xCB, 0x0D]
  | .rrcMemHl => [0xCB, 0x0E]
  | .rrcA => [0xCB, 0x0F]
  | .rlB => [0xCB, 0x10]
  | .rlC => [0xCB, 0x11]
  | .rlD => [0xCB, 0x12]
  | .rlE => [0xCB, 0x13]
  | .rlH => [0xCB, 0x14]
  | .rlL => [0xCB, 0x15]
  | .rlMemHl => [0xCB, 0x16]
  | .rlA => [0xCB, 0x17]
  | .rrB => [0xCB, 0x18]
  | .rrC => [0xCB, 0x19]
  | .rrD => [0xCB, 0x1A]
  | .rrE => [0xCB, 0x1B]
  | .rrH => [0xCB, 0x1C]
  | .rrL => [0xCB, 0x1D]
  | .rrMemHl => [0xCB, 0x1E]
  | .rrA => [0xCB, 0x1F]
  | .slaB => [0xCB, 0x20]
  | .slaC => [0xCB, 0x21]
  | .slaD => [0xCB, 0x22]
  | .slaE => [0xCB, 0x23]
  | .slaH => [0xCB, 0x24]
  | .slaL => [0xCB, 0x25]
  | .slaMemHl => [0xCB, 0x26]
  | .slaA => [0xCB, 0x27]
  | .sraB => [0xCB, 0x28]
  | .sraC => [0xCB, 0x29]
  | .sraD => [0xCB, 0x2A]
  | .sraE => [0xCB, 0x2B]
  | .sraH => [0xCB, 0x2C]
  | .sraL => [0xCB, 0x2D]
  | .sraMemHl => [0xCB, 0x2E]
  | .sraA => [0xCB, 0x2F]
  | .swapB => [0xCB, 0x30]
  | .swapC => [0xCB, 0x31]
  | .swapD => [0xCB, 0x32]
  | .swapE => [0xCB, 0x33]
  | .swapH => [0xCB, 0x34]
  | .swapL => [0xCB, 0x35]
  | .swapMemHl => [0xCB, 0x36]
  | .swapA => [0xCB, 0x37]
  | .srlB => [0xCB, 0x38]
  | .srlC => [0xCB, 0x39]
  | .srlD => [0xCB, 0x3A]
  | .srlE => [0xCB, 0x3B]
  | .srlH => [0xCB, 0x3C]
  | .srlL => [0xCB, 0x3D]
  | .srlMemHl => [0xCB, 0x3E]
  | .srlA => [0xCB, 0x3F]
  | .bit0B => [0xCB, 0x40]
  | .bit0C => [0xCB, 0x41]
  | .bit0D => [0xCB, 0x42]
  | .bit0E => [0xCB, 0x43]
  | .bit0H => [0xCB, 0x44]
  | .bit0L => [0xCB, 0x45]
  | .bit0MemHl => [0xCB, 0x46]
  | .bit0A => [0xCB, 0x47]
  | .bit1B => [0xCB, 0x48]
  | .bit1C => [0xCB, 0x49]
  | .bit1D => [0xCB, 0x4A]
  | .bit1E => [0xCB, 0x4B]
  | .bit1H => [0xCB, 0x4C]
  | .bit1L => [0xCB, 0x4D]
  | .bit1MemHl => [0xCB, 0x4E]
  | .bit1A => [0xCB, 0x4F]
  | .bit2B => [0xCB, 0x50]
  | .bit2C => [0xCB, 0x51]
  | .bit2D => [0xCB, 0x52]
  | .bit2E => [0xCB, 0x53]
  | .bit2H => [0xCB, 0x54]
  | .bit2L => [0xCB, 0x55]
  | .bit2MemHl => [0xCB, 0x56]
  | .bit2A => [0xCB, 0x57]
  | .bit3B => [0xCB, 0x58]
  | .bit3C => [0xCB, 0x59]
  | .bit3D => [0xCB, 0x5A]
  | .bit3E => [0xCB, 0x5B]
  | .bit3H => [0xCB, 0x5C]
  | .bit3L => [0xCB, 0x5D]
  | .bit3MemHl => [0xCB, 0x5E]
  | .bit3A => [0xCB, 0x5F]
  | .bit4B => [0xCB, 0x60]
  | .bit4C => [0xCB, 0x61]
  | .bit4D => [0xCB, 0x62]
  | .bit4E => [0xCB, 0x63]
  | .bit4H => [0xCB, 0x64]
  | .bit4L => [0xCB, 0x65]
  | .bit4MemHl => [0xCB, 0x66]
  | .bit4A => [0xCB, 0x67]
  | .bit5B => [0xCB, 0x68]
  | .bit5C => [0xCB, 0x69]
  | .bit5D => [0xCB, 0x6A]
  | .bit5E => [0xCB, 0x6B]
  | .bit5H => [0xCB, 0x6C]
  | .bit5L => [0xCB, 0x6D]
  | .bit5MemHl => [0xCB, 0x6E]
  | .bit5A => [0xCB, 0x6F]
  | .bit6B => [0xCB, 0x70]
  | .bit6C => [0xCB, 0x71]
  | .bit6D => [0xCB, 0x72]
  | .bit6E => [0xCB, 0x73]
  | .bit6H => [0xCB, 0x74]
  | .bit6L => [0xCB, 0x75]
  | .bit6MemHl => [0xCB, 0x76]
  | .bit6A => [0xCB, 0x77]
  | .bit7B => [0xCB, 0x78]
  | .bit7C => [0xCB, 0x79]
  | .bit7D => [0xCB, 0x7A]
  | .bit7E => [0xCB, 0x7B]
  | .bit7H => [0xCB, 0x7C]
  | .bit7L => [0xCB, 0x7D]
  | .bit7MemHl => [0xCB, 0x7E]
  | .bit7A => [0xCB, 0x7F]
  | .res0B => [0xCB, 0x80]
  | .res0C => [0xCB, 0x81]
  | .res0D => [0xCB, 0x82]
  | .res0E => [0xCB, 0x83]
  | .res0H => [0xCB, 0x84]
  | .res0L => [0xCB, 0x85]
  | .res0MemHl => [0xCB, 0x86]
  | .res0A => [0xCB, 0x87]
  | .res1B => [0xCB, 0x88]
  | .res1C => [0xCB, 0x89]
  | .res1D => [0xCB, 0x8A]
  | .res1E => [0xCB, 0x8B]
  | .res1H => [0xCB, 0x8C]
  | .res1L => [0xCB, 0x8D]
  | .res1MemHl => [0xCB, 0x8E]
  | .res1A => [0xCB, 0x8F]
  | .res2B => [0xCB, 0x90]
  | .res2C => [0xCB, 0x91]
  | .res2D => [0xCB, 0x92]
  | .res2E => [0xCB, 0x93]
  | .res2H => [0xCB, 0x94]
  | .res2L => [0xCB, 0x95]
  | .res2MemHl => [0xCB, 0x96]
  | .res2A => [0xCB, 0x97]
  | .res3B => [0xCB, 0x98]
  | .res3C => [0xCB, 0x99]
  | .res3D => [0xCB, 0x9A]
  | .res3E => [0xCB, 0x9B]
  | .res3H => [0xCB, 0x9C]
  | .res3L => [0xCB, 0x9D]
  | .res3MemHl => [0xCB, 0x9E]
  | .res3A => [0xCB, 0x9F]
  | .res4B => [0xCB, 0xA0]
  | .res4C => [0xCB, 0xA1]
  | .res4D => [0xCB, 0xA2]
  | .res4E => [0xCB, 0xA3]
  | .res4H => [0xCB, 0xA4]
  | .res4L => [0xCB, 0xA5]
  | .res4MemHl => [0xCB, 0xA6]
  | .res4A => [0xCB, 0xA7]
  | .res5B => [0xCB, 0xA8]
  | .res5C => [0xCB, 0xA9]
  | .res5D => [0xCB, 0xAA]
  | .res5E => [0xCB, 0xAB]
  | .res5H => [0xCB, 0xAC]
  | .res5L => [0xCB, 0xAD]
  | .res5MemHl => [0xCB, 0xAE]
  | .res5A => [0xCB, 0xAF]
  | .res6B => [0xCB, 0xB0]
  | .res6C => [0xCB, 0xB1]
  | .res6D => [0xCB, 0xB2]
  | .res6E => [0xCB, 0xB3]
  | .res6H => [0xCB, 0xB4]
  | .res6L => [0xCB, 0xB5]
  | .res6MemHl => [0xCB, 0xB6]
  | .res6A => [0xCB, 0xB7]
  | .res7B => [0xCB, 0xB8]
  | .res7C => [0xCB, 0xB9]
  | .res7D => [0xCB, 0xBA]
  | .res7E => [0xCB, 0xBB]
  | .res7H => [0xCB, 0xBC]
  | .res7L => [0xCB, 0xBD]
  | .res7MemHl => [0xCB, 0xBE]
  | .res7A => [0xCB, 0xBF]
  | .set0B => [0xCB, 0xC0]
  | .set0C => [0xCB, 0xC1]
  | .set0D => [0xCB, 0xC2]
  | .set0E => [0xCB, 0xC3]
  | .set0H => [0xCB, 0xC4]
  | .set0L => [0xCB, 0xC5]
  | .set0MemHl => [0xCB, 0xC6]
  | .set0A => [0xCB, 0xC7]
  | .set1B => [0xCB, 0xC8]
  | .set1C => [0xCB, 0xC9]
  | .set1D => [0xCB, 0xCA]
  | .set1E => [0xCB, 0xCB]
  | .set1H => [0xCB, 0xCC]
  | .set1L => [0xCB, 0xCD]
  | .set1MemHl => [0xCB, 0xCE]
  | .set1A => [0xCB, 0xCF]
  | .set2B => [0xCB, 0xD0]
  | .set2C => [0xCB, 0xD1]
  | .set2D => [0xCB, 0xD2]
  | .set2E => [0xCB, 0xD3]
  | .set2H => [0xCB, 0xD4]
  | .set2L => [0xCB, 0xD5]
  | .set2MemHl => [0xCB, 0xD6]
  | .set2A => [0xCB, 0xD7]
  | .set3B => [0xCB, 0xD8]
  | .set3C => [0xCB, 0xD9]
  | .set3D => [0xCB, 0xDA]
  | .set3E => [0xCB, 0xDB]
  | .set3H => [0xCB, 0xDC]
  | .set3L => [0xCB, 0xDD]
  | .set3MemHl => [0xCB, 0xDE]
  | .set3A => [0xCB, 0xDF]
  | .set4B => [0xCB, 0xE0]
  | .set4C => [0xCB, 0xE1]
  | .set4D => [0xCB, 0xE2]
  | .set4E => [0xCB, 0xE3]
  | .set4H => [0xCB, 0xE4]
  | .set4L => [0xCB, 0xE5]
  | .set4MemHl => [0xCB, 0xE6]
  | .set4A => [0xCB, 0xE7]
  | .set5B => [0xCB, 0xE8]
  | .set5C => [0xCB, 0xE9]
  | .set5D => [0xCB, 0xEA]
  | .set5E => [0xCB, 0xEB]
  | .set5H => [0xCB, 0xEC]
  | .set5L => [0xCB, 0xED]
  | .set5MemHl => [0xCB, 0xEE]
  | .set5A => [0xCB, 0xEF]
  | .set6B => [0xCB, 0xF0]
  | .set6C => [0xCB, 0xF1]
  | .set6D => [0xCB, 0xF2]
  | .set6E => [0xCB, 0xF3]
  | .set6H => [0xCB, 0xF4]
  | .set6L => [0xCB, 0xF5]
  | .set6MemHl => [0xCB, 0xF6]
  | .set6A => [0xCB, 0xF7]
  | .set7B => [0xCB, 0xF8]
  | .set7C => [0xCB, 0xF9]
  | .set7D => [0xCB, 0xFA]
  | .set7E => [0xCB, 0xFB]
  | .set7H => [0xCB, 0xFC]
  | .set7L => [0xCB, 0xFD]
  | .set7MemHl => [0xCB, 0xFE]
  | .set7A => [0xCB, 0xFF]

/-- The three bytes a table word stands for, as the hardware stores them (log entry 11). The rows of the 0xCB table are the only ones with 16 bits,
and the table numbers their prefix byte as bits 15 to 8; in every other row the opcode byte is bits 7 to 0 and later bytes count on. -/
def tableBytes (nbits w : Nat) : Byte × Byte × Byte :=
  if nbits = 16 then (BitVec.ofNat 8 (w / 256), BitVec.ofNat 8 w, 0)
  else
    let v := w % 2 ^ nbits
    (BitVec.ofNat 8 v, BitVec.ofNat 8 (v / 256), BitVec.ofNat 8 (v / 65536))

/-- The instruction the decoder reads from a table word, every bit above `nbits` being 0. -/
def decodeTableWord (nbits w : Nat) : Option Instr :=
  let bytes := tableBytes nbits w
  match decode [bytes.1, bytes.2.1, bytes.2.2] with
  | .ok (i, _) => some i
  | .error _ => none

end Sys2Proof
end

