-- ==== Sys2Proof/Config.lean ====
section
/-! DEFINITION. The parameter table of 00_scope.md R7. `STOP_MODE`, `CB_BIT_HL_CYCLES`, `OPEN_BUS` and `UNUSABLE_READ`, named arguments
of the model (93_implementation_defined.md I2, I5, I16, I17, I18), are the fields of `Params`, which State carries unchanged; widths, region
sizes and the frame are constants here;
`RAM_INIT`, `ROM_IMAGE` and `SAVE_BYTES` are arguments of the operations that take them;
`FRAME_TIME` is pacing outside the machine (R754). -/

namespace Sys2Proof.Config

/-- `ERAM_SIZE`: bytes of external RAM and of a save (R7, D16). -/
def eramSize : Nat := 0x2000

/-- Cycles of one scanline (R726). -/
def lineCycles : Nat := 456

/-- Scanlines of one frame, V-blank included (R726). -/
def frameLines : Nat := 154

/-- Visible scanlines (R47, R721). -/
def visibleLines : Nat := 144

/-- Columns of the framebuffer (R47). -/
def columns : Nat := 160

/-- `FRAME_CYCLES` (R7, R726). -/
def frameCycles : Nat := 70224

/-- `STOP_MODE` (R7, R554, D4): what opcode 0x10 does. -/
inductive StopMode where
  /-- It raises IllegalOpcode: the default. -/
  | fault
  /-- Its second byte is read and ignored, nothing else happens. -/
  | nop2
deriving DecidableEq, Repr

/-- `CB_BIT_HL_CYCLES` (R7, R602, D34): the cost of `BIT b,(HL)`. -/
inductive BitHlCost where
  /-- 16 cycles, the source's value and the default. -/
  | source
  /-- 12 cycles, the real console's value. -/
  | console
deriving DecidableEq, Repr

/-- The number of cycles a choice of `CB_BIT_HL_CYCLES` stands for. -/
def BitHlCost.cycles : BitHlCost → Nat
  | .source => 16
  | .console => 12

/-- The parameters a model takes as an argument (R7); log entry 2. -/
structure Params where
  stopMode : StopMode
  bitHlCost : BitHlCost
  /-- `OPEN_BUS`: what disabled external RAM and an empty cartridge read (D15). -/
  openBus : Byte
  /-- `UNUSABLE_READ`: what 0xFEA0 to 0xFEFF read (D14). -/
  unusableRead : Byte
deriving DecidableEq, Repr

/-- The values R7 gives for this hardware. -/
def Params.default : Params where
  stopMode := .fault
  bitHlCost := .source
  openBus := 0xFF
  unusableRead := 0x00

end Sys2Proof.Config
end

