-- ==== Sys2Proof/Machine/State.lean ====
section
/-! DEFINITION. The machine's state as plain data (10_state.md R30 to R52), its reasons to stop, and the state at power-on
(70_reset_and_hazards.md R800 to R808). INVENTORY.md lists every piece with its rule and reset value. -/

namespace Sys2Proof.Machine

/-- The one fault of the block (60_exceptions.md R700). `UnwiredBus` cannot occur and has no constructor (R704). -/
inductive Fault where
  /-- Raised by the eleven illegal opcodes (45_system.md R557) and by STOP under `STOP_MODE = fault` (R554), with the opcode byte
  and the address it was fetched from (R701). The faulting instruction records it in `State.fault`; `step` answers it from every
  faulted state, since no step follows a fault (R703). Safe: the machine stops where the hardware stops. -/
  | illegalOpcode (opcode : Byte) (pc : Word)
deriving DecidableEq, Repr

/-- Requests to which the machine gives no meaning. -/
inductive Refusal where
  /-- An instruction without a meaning yet, named as the opcode table names it; no arm of `exec` uses it. Safe. -/
  | notModelled (mnemonic : String)
  /-- Raised by `step` while the host's stop flag is set: the driver takes no step (60_exceptions.md R753). Safe. -/
  | stopped
  /-- Raised by `loadGame` and `loadSave` on a running machine, which the host table does not define (60_exceptions.md R756, I15). Safe. -/
  | loadWhileRunning
  /-- Raised by `loadSave` before any `loadGame`: the host table places load save after it (60_exceptions.md R756). Safe. -/
  | saveBeforeLoad
deriving DecidableEq, Repr

/-- Bytes by address in one canonical form: addresses strictly rising, no entry equal to 0x00, which is what an unlisted address holds
(log entry 1). -/
abbrev Memory := List Host.Cell

/-- The register file with SP and PC (10_state.md R30 to R36). -/
structure Regs where
  a : Byte
  /-- The flag register: Z N H C in bits 7 to 4, bits 3 to 0 always zero (R31, R32). -/
  f : Byte
  b : Byte
  c : Byte
  d : Byte
  e : Byte
  h : Byte
  l : Byte
  sp : Word
  pc : Word
deriving DecidableEq, Repr

/-- The cartridge kind (10_state.md R42, 20_memory.md R117). -/
inductive CartKind where
  | mbc1
  | direct
deriving DecidableEq, Repr

/-- The cartridge image (10_state.md R42): `size` is `ROM_SIZE`; byte `i < size` of the image is `cells` read at `i`,
so the image is a byte string held sparsely (log entry 9). -/
structure Cartridge where
  size : Nat
  cells : Memory
  kind : CartKind
deriving DecidableEq, Repr

/-- BankingState (10_state.md R43). -/
structure Banking where
  romBank : BitVec 5
  upper : BitVec 2
  mode : BitVec 1
  ramEnable : Bool
deriving DecidableEq, Repr

/-- The memory-mapped display registers (10_state.md R46); STAT keeps its stored bits 6 to 3 (20_memory.md R128). -/
structure Lcd where
  lcdc : Byte
  statSel : BitVec 4
  scy : Byte
  scx : Byte
  lyc : Byte
  bgp : Byte
  obp0 : Byte
  obp1 : Byte
  wy : Byte
  wx : Byte
deriving DecidableEq, Repr

/-- How far the host has come through the table of 60_exceptions.md R756, which places `loadGame` before the first `runFrame` and load save
between the two (log entry 12). -/
inductive Launch where
  /-- Powered on, no `loadGame` yet. -/
  | poweredOn
  /-- After a `loadGame`, before the first `runFrame`. -/
  | loaded
  /-- A `runFrame` was called. -/
  | running
deriving DecidableEq, Repr

/-- A framebuffer entry: a shade 0 to 3 (10_state.md R47). -/
abbrev Shade := BitVec 2

/-- The whole state of the block. -/
structure State where
  regs : Regs
  /-- Interrupt master enable (R37). -/
  ime : Bool
  /-- Set by HALT, cleared by the wake condition (R38). -/
  halted : Bool
  /-- The sticky fault (R39). -/
  fault : Option Fault
  /-- The running cycle total (R40). -/
  cycles : Nat
  /-- VRAM, ERAM, WRAM, OAM, HRAM and the plain I/O bytes, by CPU address (R41, R49). -/
  mem : Memory
  /-- The button byte at 0xFF00 (R49, R130). -/
  p1 : Byte
  /-- IF, bits 4 to 0 (R48). -/
  iflag : BitVec 5
  /-- IE (R48). -/
  ie : Byte
  cart : Cartridge
  bank : Banking
  lcd : Lcd
  /-- The scanline index (R45). -/
  ly : Nat
  /-- The intra-scanline cycle counter (R45). -/
  dot : Nat
  /-- 144 rows of 160 shades (R47). -/
  framebuffer : List (List Shade)
  /-- The driver's cycle total (R50). -/
  frameTotal : Nat
  /-- The host's stop flag (R50). -/
  stop : Bool
  /-- The host's place in the table of R756; no step reads or changes it (log entry 12). -/
  launch : Launch
  /-- The parameters of R7, which no step changes (log entry 2). -/
  params : Config.Params
deriving DecidableEq, Repr

/-- The register file at power-on (70_reset_and_hazards.md R800, R801). -/
def Regs.reset : Regs where
  a := 0x01
  f := 0xB0
  b := 0x00
  c := 0x13
  d := 0x00
  e := 0xD8
  h := 0x01
  l := 0x4D
  sp := 0xFFFE
  pc := 0x0100

/-- No cartridge (20_memory.md R118), whose kind by R117 is Direct. -/
def Cartridge.empty : Cartridge where
  size := 0
  cells := []
  kind := .direct

/-- Bank 1 selected, mode 0, RAM disabled (70_reset_and_hazards.md R807); also before any `loadGame` (log entry 6). -/
def Banking.reset : Banking where
  romBank := 1
  upper := 0
  mode := 0
  ramEnable := false

/-- The display registers at power-on (70_reset_and_hazards.md R803). -/
def Lcd.reset : Lcd where
  lcdc := 0x91
  statSel := 0
  scy := 0x00
  scx := 0x00
  lyc := 0x00
  bgp := 0xFC
  obp0 := 0xFF
  obp1 := 0xFF
  wy := 0x00
  wx := 0x00

/-- Whether an address is a byte of VRAM, ERAM, WRAM, OAM or HRAM, the regions whose contents `RAM_INIT` gives (R805). -/
def ramAddress (a : Nat) : Bool :=
  (0x8000 ≤ a && a < 0xE000) || (0xFE00 ≤ a && a < 0xFEA0) || (0xFF80 ≤ a && a < 0xFFFF)

/-- The state at power-on (R800 to R806) for the parameters and the draw `RAM_INIT` (R805), which is the part of `ramInit` in the RAM regions. -/
def State.powerOn (params : Config.Params) (ramInit : Memory) : State where
  regs := Regs.reset
  ime := false
  halted := false
  fault := none
  cycles := 0
  mem := ramInit.filter fun cell => ramAddress cell.1
  p1 := 0xCF
  iflag := 0x01
  ie := 0x00
  cart := Cartridge.empty
  bank := Banking.reset
  lcd := Lcd.reset
  ly := 0
  dot := 0
  framebuffer := List.replicate Config.visibleLines (List.replicate Config.columns 0)
  frameTotal := 0
  stop := false
  launch := .poweredOn
  params := params

/-- The machine right after reset: the parameters at their defaults and the all-zero draw of `RAM_INIT`, which R805 lets a model take
(log entries 1 and 2). -/
def State.reset : State :=
  State.powerOn Config.Params.default []

end Sys2Proof.Machine
end

