-- ==== Sys2Proof/Machine/Memory.lean ====
section
/-! DEFINITION. Reading and writing one byte of a canonical list of cells, the form itself, and the byte-order helpers.
One list holds the RAM and plain I/O bytes (10_state.md R41, R49), another the cartridge image (R42). -/

namespace Sys2Proof.Machine

/-- The byte at an address; an unlisted address holds 0x00 (log entry 1). -/
def Memory.read : Memory → Nat → Byte
  | [], _ => 0
  | (b, w) :: rest, a => if a = b then w else Memory.read rest a

/-- Puts a byte other than 0x00 in its place. -/
def Memory.insert : Memory → Nat → Byte → Memory
  | [], a, v => [(a, v)]
  | (b, w) :: rest, a, v =>
    if a < b then (a, v) :: (b, w) :: rest
    else if a = b then (a, v) :: rest
    else (b, w) :: Memory.insert rest a v

/-- Takes an address out of the list. -/
def Memory.erase (m : Memory) (a : Nat) : Memory :=
  m.filter fun cell => cell.1 ≠ a

/-- Writes one byte; writing 0x00, what an unlisted address holds, removes the entry. -/
def Memory.write (m : Memory) (a : Nat) (v : Byte) : Memory :=
  if v = 0 then m.erase a else m.insert a v

/-- The canonical form: addresses strictly rising, no entry 0x00. -/
def Memory.wf : Memory → Bool
  | [] => true
  | (a, v) :: rest => v ≠ 0 && rest.all (fun cell => a < cell.1) && Memory.wf rest

/-- Writes bytes to consecutive addresses, the first byte to the first address. -/
def Memory.writeBytes : Memory → Nat → List Byte → Memory
  | m, _, [] => m
  | m, a, v :: rest => Memory.writeBytes (m.write a v) (a + 1) rest

/-- `hi:lo` (00_scope.md R9). -/
def word (hi lo : Byte) : Word := hi ++ lo

/-- Bits 15 to 8 of a word. -/
def hiByte (v : Word) : Byte := v.extractLsb' 8 8

/-- Bits 7 to 0 of a word. -/
def loByte (v : Word) : Byte := v.extractLsb' 0 8

/-- `sext_8` as a word: the signed displacement modulo 2^16 (00_scope.md R9, 30_encoding.md R208). -/
def displacement (e : Byte) : Word := e.signExtend 16

end Sys2Proof.Machine
end

