-- ==== Sys2Proof/Machine/Render.lean ====
section
/-! DEFINITION. The scanline renderer (60_exceptions.md R729 to R739). Colour indices, rows and columns are natural numbers;
VRAM and OAM are read directly by CPU address (no access blocking, 20_memory.md R147). -/

namespace Sys2Proof.Machine

/-- The colour index of column `col` of row `row` of the tile at `base` (R731). -/
def tilePixel (m : Memory) (base row col : Nat) : Nat :=
  2 * ((m.read (base + 2 * row + 1)).getLsbD (7 - col)).toNat + ((m.read (base + 2 * row)).getLsbD (7 - col)).toNat

/-- Where a background or window tile lies: unsigned from 0x8000 when LCDC bit 4 is set, signed from 0x9000 when it is not (R731). -/
def bgTileBase (lcdc : Byte) (tile : Byte) : Nat :=
  if lcdc.getLsbD 4 then 0x8000 + 16 * tile.toNat else (0x9000 + 16 * tile.toInt).toNat

/-- Where a sprite tile lies (R731). -/
def objTileBase (tile : Byte) : Nat := 0x8000 + 16 * tile.toNat

/-- The tile map a selecting bit names (R730, R732). -/
def tileMap (sel : Bool) : Nat := if sel then 0x9C00 else 0x9800

/-- The colour index at column `cx`, row `cy` of the 256 by 256 map at `map` (R730, R732). -/
def mapPixel (m : Memory) (lcdc : Byte) (map cx cy : Nat) : Nat :=
  tilePixel m (bgTileBase lcdc (m.read (map + cy / 8 * 32 + cx / 8))) (cy % 8) (cx % 8)

/-- Whether the window covers the pixel (R732). -/
def State.windowCovers (s : State) (x : Nat) : Bool :=
  s.lcd.lcdc.getLsbD 5 && decide (s.lcd.wy.toNat ≤ s.ly) && decide (s.lcd.wx.toNat ≤ x + 7)

/-- The background or window colour index `bgc` at column `x` of line `ly` (R730, R732, R738). -/
def State.bgIndex (s : State) (x : Nat) : Nat :=
  if s.lcd.lcdc.getLsbD 0 then
    if s.windowCovers x then
      mapPixel s.mem s.lcd.lcdc (tileMap (s.lcd.lcdc.getLsbD 6)) (x + 7 - s.lcd.wx.toNat) (s.ly - s.lcd.wy.toNat)
    else
      mapPixel s.mem s.lcd.lcdc (tileMap (s.lcd.lcdc.getLsbD 3)) ((x + s.lcd.scx.toNat) % 256) ((s.ly + s.lcd.scy.toNat) % 256)
  else 0

/-- One OAM entry (20_memory.md R122). -/
structure Sprite where
  y : Nat
  x : Nat
  tile : Byte
  attr : Byte
deriving DecidableEq, Repr

/-- OAM entry `i` (R733). -/
def oamEntry (m : Memory) (i : Nat) : Sprite where
  y := (m.read (0xFE00 + 4 * i)).toNat
  x := (m.read (0xFE00 + 4 * i + 1)).toNat
  tile := m.read (0xFE00 + 4 * i + 2)
  attr := m.read (0xFE00 + 4 * i + 3)

/-- The sprite height `h` (R733, R739). -/
def spriteHeight (lcdc : Byte) : Nat := if lcdc.getLsbD 2 then 16 else 8

/-- `Y − 16 ≤ ly < Y − 16 + h` over the integers (R733). -/
def Sprite.onLine (o : Sprite) (ly h : Nat) : Bool :=
  decide (o.y ≤ ly + 16) && decide (ly + 16 < o.y + h)

/-- The line's sprites: the first ten on the line, in index order (R733). -/
def State.lineSprites (s : State) : List Sprite :=
  (((List.range 40).map (oamEntry s.mem)).filter fun o => o.onLine s.ly (spriteHeight s.lcd.lcdc)).take 10

/-- `X − 8 ≤ x < X` over the integers (R734). -/
def Sprite.covers (o : Sprite) (x : Nat) : Bool :=
  decide (o.x ≤ x + 8) && decide (x < o.x)

/-- The sprite's colour index at a column it covers (R734). -/
def Sprite.index (o : Sprite) (m : Memory) (ly h x : Nat) : Nat :=
  let row0 := ly + 16 - o.y
  let row := if o.attr.getLsbD 6 then h - 1 - row0 else row0
  let tile := if h = 16 then o.tile &&& 0xFE ||| BitVec.ofNat 8 (row / 8) else o.tile
  let col0 := x + 8 - o.x
  let col := if o.attr.getLsbD 5 then 7 - col0 else col0
  tilePixel m (objTileBase tile) (row % 8) col

/-- Puts a sprite in front of the first one with a greater X, so that equal X keep index order (R735). -/
def insertByX (o : Sprite) : List Sprite → List Sprite
  | [] => [o]
  | p :: rest => if o.x ≤ p.x then o :: p :: rest else p :: insertByX o rest

/-- Sprites by X ascending, then index ascending (R735). -/
def sortByX : List Sprite → List Sprite
  | [] => []
  | o :: rest => insertByX o (sortByX rest)

/-- The winning sprite at a column with its colour index: the first, in priority order, that covers it and is not transparent (R734, R735). -/
def winningSprite (m : Memory) (sprites : List Sprite) (ly h x : Nat) : Option (Sprite × Nat) :=
  (((sortByX (sprites.filter fun o => o.covers x)).map fun o => (o, o.index m ly h x)).filter fun p => p.2 ≠ 0).head?

/-- The shade a palette gives a colour index (R737). -/
def paletteShade (palette : Byte) (index : Nat) : Shade :=
  (palette >>> (2 * index)).setWidth 2

/-- The shade of column `x`, given the line's sprites (R729, R735 to R739). -/
def State.pixelShade (s : State) (sprites : List Sprite) (x : Nat) : Shade :=
  if s.lcd.lcdc.getLsbD 7 then
    let bgc := s.bgIndex x
    let background := paletteShade s.lcd.bgp bgc
    if s.lcd.lcdc.getLsbD 1 then
      match winningSprite s.mem sprites s.ly (spriteHeight s.lcd.lcdc) x with
      | none => background
      | some (o, sc) =>
        if o.attr.getLsbD 7 && decide (bgc ≠ 0) then background
        else paletteShade (if o.attr.getLsbD 4 then s.lcd.obp1 else s.lcd.obp0) sc
    else background
  else 0

/-- The row of shades of line `ly` (R729). -/
def State.scanline (s : State) : List Shade :=
  let sprites := s.lineSprites
  (List.range Config.columns).map (s.pixelShade sprites)

/-- `renderScanline(ly)`: the framebuffer row `ly` is overwritten (R724, R729). -/
def State.renderScanline (s : State) : State :=
  { s with framebuffer := s.framebuffer.set s.ly s.scanline }

end Sys2Proof.Machine
end

