-- ==== Sys2Proof/Machine/Ppu.lean ====
section
/-! DEFINITION. The DisplayController's state machine (60_exceptions.md R720 to R728): modes, the unit tick, `advance`. -/

namespace Sys2Proof.Machine

/-- The four PPU states (R721). -/
inductive PpuMode where
  | oamSearch
  | pixelTransfer
  | hblank
  | vblank
deriving DecidableEq, Repr

/-- The PPU state as a function of `ly` and `dot` (R721). -/
def ppuMode (ly dot : Nat) : PpuMode :=
  if 144 ≤ ly then .vblank
  else if dot < 80 then .oamSearch
  else if dot < 252 then .pixelTransfer
  else .hblank

/-- The mode number of STAT bits 1 and 0 (R727). -/
def PpuMode.number : PpuMode → BitVec 2
  | .hblank => 0
  | .vblank => 1
  | .oamSearch => 2
  | .pixelTransfer => 3

/-- The V-blank request: IF bit 0 (R725). -/
def State.requestVblank (s : State) : State :=
  { s with iflag := s.iflag ||| 1 }

/-- The start of the next scanline (R723). -/
def State.nextLine (s : State) : State :=
  let t := { s with dot := 0, ly := (s.ly + 1) % 154 }
  if t.ly = 144 then t.requestVblank else t

/-- One unit tick (R723); the row is rendered where `dot` becomes 80 on a visible line (R724). -/
def State.tick (s : State) : State :=
  if s.dot + 1 = 456 then s.nextLine
  else
    let t := { s with dot := s.dot + 1 }
    if t.ly < 144 ∧ t.dot = 80 then t.renderScanline else t

/-- `advance(c)`: c unit ticks, in order (R722). -/
def State.advance : Nat → State → State
  | 0, s => s
  | c + 1, s => State.advance c s.tick

end Sys2Proof.Machine
end

