-- ==== Sys2Proof/Machine/Bus.lean ====
section
/-! DEFINITION. The AddressSpace and the CartridgeController (20_memory.md): the region map, `readByte`, `writeByte`, the MBC1 bank
logic, the memory-mapped registers and the 16-bit accessors. -/

namespace Sys2Proof.Machine

/-- The rows of the region map (R101). -/
inductive Region where
  | romLow
  | romHigh
  | vram
  | eram
  | wram
  | echo
  | oam
  | unusable
  | io
  | hram
  | ie
deriving DecidableEq, Repr

/-- The row of R101 that contains an address. -/
def regionOf (n : Nat) : Region :=
  if n < 0x4000 then .romLow
  else if n < 0x8000 then .romHigh
  else if n < 0xA000 then .vram
  else if n < 0xC000 then .eram
  else if n < 0xE000 then .wram
  else if n < 0xFE00 then .echo
  else if n < 0xFEA0 then .oam
  else if n < 0xFF00 then .unusable
  else if n < 0xFF80 then .io
  else if n < 0xFFFF then .hram
  else .ie

/-- The memory-mapped registers of the I/O block (10_state.md R46, R48, R49); every other byte is plain storage. -/
inductive IoReg where
  | p1
  | iflag
  | lcdc
  | stat
  | scy
  | scx
  | ly
  | lyc
  | bgp
  | obp0
  | obp1
  | wy
  | wx
  | plain
deriving DecidableEq, Repr

/-- The register at an address of the I/O block. -/
def ioRegOf (n : Nat) : IoReg :=
  if n = 0xFF00 then .p1
  else if n = 0xFF0F then .iflag
  else if n = 0xFF40 then .lcdc
  else if n = 0xFF41 then .stat
  else if n = 0xFF42 then .scy
  else if n = 0xFF43 then .scx
  else if n = 0xFF44 then .ly
  else if n = 0xFF45 then .lyc
  else if n = 0xFF47 then .bgp
  else if n = 0xFF48 then .obp0
  else if n = 0xFF49 then .obp1
  else if n = 0xFF4A then .wy
  else if n = 0xFF4B then .wx
  else .plain

/-- The address `n` of the ROM window as an image offset, before the modulus (R105, R106, R114). -/
def romOffset (kind : CartKind) (bank : Banking) (n : Nat) : Nat :=
  match kind with
  | .direct => n
  | .mbc1 =>
    if n < 0x4000 then
      (if bank.mode = 1 then bank.upper.toNat * 32 else 0) * 0x4000 + n
    else
      (if bank.mode = 0 then bank.upper.toNat * 32 + bank.romBank.toNat else bank.romBank.toNat) * 0x4000 + (n - 0x4000)

/-- An image byte modulo `ROM_SIZE` (R107); an empty image reads `OPEN_BUS` (R118). -/
def Cartridge.read (cart : Cartridge) (openBus : Byte) (offset : Nat) : Byte :=
  if cart.size = 0 then openBus else cart.cells.read (offset % cart.size)

/-- Whether external RAM answers: under MBC1 while the latch is set (R113), under Direct always (R116). -/
def State.eramOpen (s : State) : Bool :=
  match s.cart.kind with
  | .mbc1 => s.bank.ramEnable
  | .direct => true

/-- STAT as a read sees it (R128, 60_exceptions.md R727, R728). -/
def State.statByte (s : State) : Byte :=
  (1#1 ++ s.lcd.statSel) ++ (BitVec.ofBool (BitVec.ofNat 8 s.ly = s.lcd.lyc) ++ (ppuMode s.ly s.dot).number)

/-- A read of the I/O block (R124 to R131). -/
def State.ioRead (s : State) (n : Nat) : Byte :=
  match ioRegOf n with
  | .p1 => s.p1
  | .iflag => 0b111#3 ++ s.iflag
  | .lcdc => s.lcd.lcdc
  | .stat => s.statByte
  | .scy => s.lcd.scy
  | .scx => s.lcd.scx
  | .ly => BitVec.ofNat 8 s.ly
  | .lyc => s.lcd.lyc
  | .bgp => s.lcd.bgp
  | .obp0 => s.lcd.obp0
  | .obp1 => s.lcd.obp1
  | .wy => s.lcd.wy
  | .wx => s.lcd.wx
  | .plain => s.mem.read n

/-- `readByte(a)` (R103): no side effect, every address. -/
def State.readByte (s : State) (a : Word) : Byte :=
  let n := a.toNat
  match regionOf n with
  | .romLow => s.cart.read s.params.openBus (romOffset s.cart.kind s.bank n)
  | .romHigh => s.cart.read s.params.openBus (romOffset s.cart.kind s.bank n)
  | .vram => s.mem.read n
  | .eram => if s.eramOpen then s.mem.read n else s.params.openBus
  | .wram => s.mem.read n
  | .echo => s.mem.read (n - 0x2000)
  | .oam => s.mem.read n
  | .unusable => s.params.unusableRead
  | .io => s.ioRead n
  | .hram => s.mem.read n
  | .ie => s.ie

/-- A control write to the ROM window of an MBC1 cartridge (R108 to R111). -/
def Banking.control (bank : Banking) (n : Nat) (v : Byte) : Banking :=
  if n < 0x2000 then { bank with ramEnable := v &&& 0x0F = 0x0A }
  else if n < 0x4000 then
    { bank with romBank := if v.setWidth 5 = 0 then 1 else v.setWidth 5 }
  else if n < 0x6000 then { bank with upper := v.setWidth 2 }
  else { bank with mode := v.setWidth 1 }

/-- A write to the ROM window: control under MBC1, discarded under Direct (R115); the image never changes (R112). -/
def State.romControl (s : State) (n : Nat) (v : Byte) : State :=
  match s.cart.kind with
  | .mbc1 => { s with bank := s.bank.control n v }
  | .direct => s

/-- Stores one byte of RAM or plain I/O. -/
def State.store (s : State) (n : Nat) (v : Byte) : State :=
  { s with mem := s.mem.write n v }

/-- A write to the I/O block (R124 to R131). -/
def State.ioWrite (s : State) (n : Nat) (v : Byte) : State :=
  match ioRegOf n with
  | .p1 => { s with p1 := v }
  | .iflag => { s with iflag := v.setWidth 5 }
  | .lcdc => { s with lcd := { s.lcd with lcdc := v } }
  | .stat => { s with lcd := { s.lcd with statSel := v.extractLsb' 3 4 } }
  | .scy => { s with lcd := { s.lcd with scy := v } }
  | .scx => { s with lcd := { s.lcd with scx := v } }
  | .ly => s
  | .lyc => { s with lcd := { s.lcd with lyc := v } }
  | .bgp => { s with lcd := { s.lcd with bgp := v } }
  | .obp0 => { s with lcd := { s.lcd with obp0 := v } }
  | .obp1 => { s with lcd := { s.lcd with obp1 := v } }
  | .wy => { s with lcd := { s.lcd with wy := v } }
  | .wx => { s with lcd := { s.lcd with wx := v } }
  | .plain => s.store n v

/-- `writeByte(a, v)` (R104): it never faults. -/
def State.writeByte (s : State) (a : Word) (v : Byte) : State :=
  let n := a.toNat
  match regionOf n with
  | .romLow => s.romControl n v
  | .romHigh => s.romControl n v
  | .vram => s.store n v
  | .eram => if s.eramOpen then s.store n v else s
  | .wram => s.store n v
  | .echo => s.store (n - 0x2000) v
  | .oam => s.store n v
  | .unusable => s
  | .io => s.ioWrite n v
  | .hram => s.store n v
  | .ie => { s with ie := v }

/-- `readWord(a)`: little-endian, wrapping at 0xFFFF (R132, R134). -/
def State.readWord (s : State) (a : Word) : Word :=
  word (s.readByte (a + 1)) (s.readByte a)

/-- `writeWord(a, v)`: the low byte first (R133). -/
def State.writeWord (s : State) (a : Word) (v : Word) : State :=
  (s.writeByte a (loByte v)).writeByte (a + 1) (hiByte v)

end Sys2Proof.Machine
end

