-- ==== Sys2Proof/Machine/Ops.lean ====
section
/-! DEFINITION. The named operations over registers, flags and the stack (10_state.md R30 to R37, 40_load.md R322, R323), how an
instruction completes, and the one shared operation that takes a fault (60_exceptions.md R700 to R702). -/

namespace Sys2Proof.Machine

/-- What a meaning answers. -/
abbrev Out := Host.Outcome State Fault Refusal

/-- Reads one of the seven registers of the 3-bit field (R30, R203). -/
def Regs.get (g : Regs) : Reg8 → Byte
  | .b => g.b
  | .c => g.c
  | .d => g.d
  | .e => g.e
  | .h => g.h
  | .l => g.l
  | .a => g.a

/-- Writes one of the seven registers of the 3-bit field (R30, R203). -/
def Regs.set (g : Regs) (r : Reg8) (v : Byte) : Regs :=
  match r with
  | .b => { g with b := v }
  | .c => { g with c := v }
  | .d => { g with d := v }
  | .e => { g with e := v }
  | .h => { g with h := v }
  | .l => { g with l := v }
  | .a => { g with a := v }

/-- `x[BC]`, big-endian over the two registers (R33). -/
def Regs.bc (g : Regs) : Word := word g.b g.c

/-- `x[DE]` (R33). -/
def Regs.de (g : Regs) : Word := word g.d g.e

/-- `x[HL]` (R33). -/
def Regs.hl (g : Regs) : Word := word g.h g.l

/-- `x[AF]` (R33); a read of F has bits 3 to 0 zero (R32). -/
def Regs.af (g : Regs) : Word := word g.a (g.f &&& 0xF0)

/-- `x[HL] <- v` (R34). -/
def Regs.setHl (g : Regs) (v : Word) : Regs := { g with h := hiByte v, l := loByte v }

/-- A pair of the field `rp` (R33, R35, R204). -/
def Regs.pair (g : Regs) : Pair → Word
  | .bc => g.bc
  | .de => g.de
  | .hl => g.hl
  | .sp => g.sp

/-- Writes a pair of the field `rp` (R34, R35, R204). -/
def Regs.setPair (g : Regs) (p : Pair) (v : Word) : Regs :=
  match p with
  | .bc => { g with b := hiByte v, c := loByte v }
  | .de => { g with d := hiByte v, e := loByte v }
  | .hl => g.setHl v
  | .sp => { g with sp := v }

/-- A pair of the field `rp2` (R33, R205). -/
def Regs.stackPair (g : Regs) : StackPair → Word
  | .bc => g.bc
  | .de => g.de
  | .hl => g.hl
  | .af => g.af

/-- Writes a pair of the field `rp2`; a write of AF forces the low nibble of F to zero (R32, R34, R205). -/
def Regs.setStackPair (g : Regs) (q : StackPair) (v : Word) : Regs :=
  match q with
  | .bc => { g with b := hiByte v, c := loByte v }
  | .de => { g with d := hiByte v, e := loByte v }
  | .hl => g.setHl v
  | .af => { g with a := hiByte v, f := loByte v &&& 0xF0 }

/-- F from its four flags (R31). -/
def packFlags (z n h c : Bool) : Byte :=
  (BitVec.ofBool z ++ BitVec.ofBool n) ++ (BitVec.ofBool h ++ BitVec.ofBool c) ++ 0#4

/-- The flag Z (R31). -/
def Regs.zf (g : Regs) : Bool := g.f.getLsbD 7

/-- The flag N (R31). -/
def Regs.nf (g : Regs) : Bool := g.f.getLsbD 6

/-- The flag H (R31). -/
def Regs.hf (g : Regs) : Bool := g.f.getLsbD 5

/-- The flag C (R31). -/
def Regs.cf (g : Regs) : Bool := g.f.getLsbD 4

/-- `F.flags <- (z, n, h, c)` (00_scope.md R10). -/
def Regs.setFlags (g : Regs) (z n h c : Bool) : Regs := { g with f := packFlags z n h c }

/-- `cond(cc)` (R206). -/
def Regs.cond (g : Regs) : Cond → Bool
  | .nz => !g.zf
  | .z => g.zf
  | .nc => !g.cf
  | .c => g.cf

/-- Applies a change of the register file. -/
def State.mapRegs (s : State) (change : Regs → Regs) : State := { s with regs := change s.regs }

/-- `x[r] <- v`. -/
def State.setReg (s : State) (r : Reg8) (v : Byte) : State := s.mapRegs fun g => g.set r v

/-- `pc <- v`. -/
def State.setPc (s : State) (v : Word) : State := s.mapRegs fun g => { g with pc := v }

/-- `SP <- v`. -/
def State.setSp (s : State) (v : Word) : State := s.mapRegs fun g => { g with sp := v }

/-- `F.flags <- (z, n, h, c)`. -/
def State.setFlags (s : State) (z n h c : Bool) : State := s.mapRegs fun g => g.setFlags z n h c

/-- The program counter advanced past `len` bytes, modulo 2^16 (R36, R213). -/
def State.skip (s : State) (len : Nat) : State := s.setPc (s.regs.pc + BitVec.ofNat 16 len)

/-- The step's cost added to the running total (R40, R215). -/
def State.charge (s : State) (cost : Nat) : State := { s with cycles := s.cycles + cost }

/-- `Push16(v)`: the high byte first, at the higher address (R322). -/
def State.push16 (s : State) (v : Word) : State :=
  let s1 := s.setSp (s.regs.sp - 1)
  let s2 := s1.writeByte s1.regs.sp (hiByte v)
  let s3 := s2.setSp (s2.regs.sp - 1)
  s3.writeByte s3.regs.sp (loByte v)

/-- The word `Pop16()` returns: the low byte at SP, then the high byte at SP + 1 (R323). -/
def State.popValue (s : State) : Word :=
  word (s.readByte (s.regs.sp + 1)) (s.readByte s.regs.sp)

/-- SP after `Pop16()` (R323); the reads change nothing (R103). -/
def State.dropWord (s : State) : State := s.setSp (s.regs.sp + 2)

/-- An instruction of `len` bytes and cost `cost` whose effect runs with the pc past its last byte (00_scope.md R12, 30_encoding.md R212). -/
def complete (len cost : Nat) (effect : State → State) (s : State) : Out :=
  .next ((effect (s.skip len)).charge cost)

/-- A conditional instruction: both forms fetch all their bytes, only the cost and the effect differ (R220). -/
def completeIf (cc : Cond) (len taken notTaken : Nat) (effect : State → State) (s : State) : Out :=
  if s.regs.cond cc then complete len taken effect s else complete len notTaken id s

/-- `raise IllegalOpcode(op, pc0)`: the fault is recorded, PC stays past the opcode byte, nothing else changes and no cycle is counted
(60_exceptions.md R700 to R702). It enters no handler and saves nothing (R707); there is no return from it (R708). -/
def raiseIllegal (op : Byte) (s : State) : Out :=
  .next { s.skip 1 with fault := some (.illegalOpcode op s.regs.pc) }

end Sys2Proof.Machine
end

