-- ==== Sys2Proof/Machine/Operands.lean ====
section
/-! DEFINITION. Every operand form: the 8-bit operand `r` or `(HL)` of the primary and the 0xCB table (30_encoding.md R203,
46_cb_prefix.md R601), the ALU source (41_alu8.md R400), the high-page addresses (30_encoding.md R210, R211). -/

namespace Sys2Proof.Machine

/-- Reads a register or the byte at HL (R203, R601). -/
def State.readOperand (s : State) : Operand8 → Byte
  | .reg r => s.regs.get r
  | .memHl => s.readByte s.regs.hl

/-- Writes a register or the byte at HL (R203, R601). -/
def State.writeOperand (s : State) (o : Operand8) (v : Byte) : State :=
  match o with
  | .reg r => s.setReg r v
  | .memHl => s.writeByte s.regs.hl v

/-- The second operand `s` of an ALU instruction (R400). -/
def State.aluSource (s : State) : AluSrc → Byte
  | .reg r => s.regs.get r
  | .memHl => s.readByte s.regs.hl
  | .imm n => n

/-- The length of an ALU form (R400). -/
def aluLength : AluSrc → Nat
  | .reg _ => 1
  | .memHl => 1
  | .imm _ => 2

/-- The cost of an ALU form (R400). -/
def aluCost : AluSrc → Nat
  | .reg _ => 4
  | .memHl => 8
  | .imm _ => 8

/-- `0xFF00 + n8` (R210), and `0xFF00 + C` with n8 the value of C (R211). -/
def highPage (n : Byte) : Word := word 0xFF n

end Sys2Proof.Machine
end

