-- ==== Sys2Proof/Machine/Flags.lean ====
section
/-! DEFINITION. Every flag computation: a result with its four flags, in the spec's exact integer arithmetic, for the 8-bit ALU
(41_alu8.md), the 16-bit additions (42_alu16.md) and the shifts and rotates (43_rotate_a.md, 46_cb_prefix.md). -/

namespace Sys2Proof.Machine

/-- An 8-bit result with the flags it sets. -/
structure Flagged where
  value : Byte
  z : Bool
  n : Bool
  h : Bool
  c : Bool
deriving DecidableEq, Repr

/-- Addition with carry in (R401, R402). -/
def add8 (a v : Byte) (carry : Bool) : Flagged :=
  let t := a.toNat + v.toNat + carry.toNat
  { value := BitVec.ofNat 8 t
    z := BitVec.ofNat 8 t = 0
    n := false
    h := a.toNat % 16 + v.toNat % 16 + carry.toNat > 15
    c := t > 255 }

/-- Subtraction with borrow in (R403, R404). -/
def sub8 (a v : Byte) (borrow : Bool) : Flagged :=
  let r := a - v - BitVec.ofNat 8 borrow.toNat
  { value := r
    z := r = 0
    n := true
    h := a.toNat % 16 < v.toNat % 16 + borrow.toNat
    c := a.toNat < v.toNat + borrow.toNat }

/-- A logical result: Z from it, N and C clear, H as the operation says (R405, R406, R407). -/
def logic8 (r : Byte) (h : Bool) : Flagged :=
  { value := r, z := r = 0, n := false, h := h, c := false }

/-- The eight ALU operations on A and a source; CP keeps A (R401 to R408). -/
def alu8 (op : AluOp) (a v : Byte) (carry : Bool) : Flagged :=
  match op with
  | .add => add8 a v false
  | .adc => add8 a v carry
  | .sub => sub8 a v false
  | .sbc => sub8 a v carry
  | .and => logic8 (a &&& v) true
  | .xor => logic8 (a ^^^ v) false
  | .or => logic8 (a ||| v) false
  | .cp => { sub8 a v false with value := a }

/-- INC: C is kept (R409, R410). -/
def inc8 (v : Byte) (carry : Bool) : Flagged :=
  { value := v + 1, z := v + 1 = 0, n := false, h := v &&& 0x0F = 0x0F, c := carry }

/-- DEC: C is kept (R411, R412). -/
def dec8 (v : Byte) (carry : Bool) : Flagged :=
  { value := v - 1, z := v - 1 = 0, n := true, h := v &&& 0x0F = 0x00, c := carry }

/-- DAA on A and the flags N, H, C (R413). -/
def daa8 (a : Byte) (n h c : Bool) : Flagged :=
  let high := c || (!n && decide (a.toNat > 0x99))
  let low := h || (!n && decide (a.toNat % 16 > 9))
  let adjust : Byte := (if high then 0x60 else 0) + (if low then 0x06 else 0)
  let r := if n then a - adjust else a + adjust
  { value := r, z := r = 0, n := n, h := false, c := high }

/-- The eight shifts and rotates: the result and the bit shifted out (R604 to R611). -/
def shift8 (k : ShiftOp) (v : Byte) (carry : Bool) : Byte × Bool :=
  match k with
  | .rlc => (v <<< 1 ||| v >>> 7, v.getLsbD 7)
  | .rrc => (v >>> 1 ||| v <<< 7, v.getLsbD 0)
  | .rl => (v <<< 1 ||| BitVec.ofNat 8 carry.toNat, v.getLsbD 7)
  | .rr => (v >>> 1 ||| BitVec.ofNat 8 carry.toNat <<< 7, v.getLsbD 0)
  | .sla => (v <<< 1, v.getLsbD 7)
  | .sra => (v >>> 1 ||| v &&& 0x80, v.getLsbD 0)
  | .swap => (v <<< 4 ||| v >>> 4, false)
  | .srl => (v >>> 1, v.getLsbD 0)

/-- Carry out of bit 11 of a 16-bit addition (R450). -/
def halfCarry16 (x y : Word) : Bool := x.toNat % 4096 + y.toNat % 4096 > 4095

/-- Carry out of bit 15 of a 16-bit addition (R450). -/
def carry16 (x y : Word) : Bool := x.toNat + y.toNat > 65535

/-- Carry out of bit 3 of the low byte of SP plus the unsigned byte (R453). -/
def spHalfCarry (sp : Word) (u : Byte) : Bool := sp.toNat % 16 + u.toNat % 16 > 15

/-- Carry out of bit 7 of the low byte of SP plus the unsigned byte (R453). -/
def spCarry (sp : Word) (u : Byte) : Bool := sp.toNat % 256 + u.toNat > 255

end Sys2Proof.Machine
end

