-- ==== Sys2Proof/Machine/Alu16.lean ====
section
/-! DEFINITION. The meanings of 42_alu16.md R450 to R454: 16-bit arithmetic (14 rows): shared operations first, then one meaning per row. -/

namespace Sys2Proof.Machine

/-- `ADD HL,rr`; Z is kept (R450). -/
def doAddHlPair (p : Pair) : State → Out :=
  complete 1 8 fun s =>
    let x := s.regs.hl
    let v := s.regs.pair p
    (s.mapRegs fun g => g.setHl (x + v)).setFlags s.regs.zf false (halfCarry16 x v) (carry16 x v)

/-- `INC rr` (R451). -/
def doIncPair (p : Pair) : State → Out :=
  complete 1 8 fun s => s.mapRegs fun g => g.setPair p (g.pair p + 1)

/-- `DEC rr` (R452). -/
def doDecPair (p : Pair) : State → Out :=
  complete 1 8 fun s => s.mapRegs fun g => g.setPair p (g.pair p - 1)

/-- `ADD SP,e` (R453). -/
def doAddSp (e : Byte) : State → Out :=
  complete 2 16 fun s =>
    (s.setSp (s.regs.sp + displacement e)).setFlags false false (spHalfCarry s.regs.sp e) (spCarry s.regs.sp e)

/-- `LD HL,SP+e` (R454). -/
def doLdHlSp (e : Byte) : State → Out :=
  complete 2 12 fun s =>
    (s.mapRegs fun g => g.setHl (s.regs.sp + displacement e)).setFlags false false (spHalfCarry s.regs.sp e)
      (spCarry s.regs.sp e)

/-- `INC BC` (0x03): R451. -/
def execIncBc (s : State) : Out := doIncPair .bc s

/-- `ADD HL,BC` (0x09): R450. -/
def execAddHlBc (s : State) : Out := doAddHlPair .bc s

/-- `DEC BC` (0x0B): R452. -/
def execDecBc (s : State) : Out := doDecPair .bc s

/-- `INC DE` (0x13): R451. -/
def execIncDe (s : State) : Out := doIncPair .de s

/-- `ADD HL,DE` (0x19): R450. -/
def execAddHlDe (s : State) : Out := doAddHlPair .de s

/-- `DEC DE` (0x1B): R452. -/
def execDecDe (s : State) : Out := doDecPair .de s

/-- `INC HL` (0x23): R451. -/
def execIncHl (s : State) : Out := doIncPair .hl s

/-- `ADD HL,HL` (0x29): R450. -/
def execAddHlHl (s : State) : Out := doAddHlPair .hl s

/-- `DEC HL` (0x2B): R452. -/
def execDecHl (s : State) : Out := doDecPair .hl s

/-- `INC SP` (0x33): R451. -/
def execIncSp (s : State) : Out := doIncPair .sp s

/-- `ADD HL,SP` (0x39): R450. -/
def execAddHlSp (s : State) : Out := doAddHlPair .sp s

/-- `DEC SP` (0x3B): R452. -/
def execDecSp (s : State) : Out := doDecPair .sp s

/-- `ADD SP,e8` (0xE8): R453. -/
def execAddSpE8 (e : Byte) (s : State) : Out := doAddSp e s

/-- `LD HL,SP+e8` (0xF8): R454. -/
def execLdHlSpE8 (e : Byte) (s : State) : Out := doLdHlSp e s

end Sys2Proof.Machine
end

