-- ==== Sys2Proof/Machine/Alu8.lean ====
section
/-! DEFINITION. The meanings of 41_alu8.md R400 to R416: 8-bit arithmetic and logic (92 rows): shared operations first, then one meaning per row. -/

namespace Sys2Proof.Machine

/-- Writes the flags of a result (00_scope.md R10). -/
def State.putFlags (s : State) (r : Flagged) : State := s.setFlags r.z r.n r.h r.c

/-- The two-operand operations; CP writes back the A it read (R400 to R408). -/
def doAlu (op : AluOp) (x : AluSrc) : State → Out :=
  complete (aluLength x) (aluCost x) fun s =>
    let r := alu8 op s.regs.a (s.aluSource x) s.regs.cf
    (s.setReg .a r.value).putFlags r

/-- `INC r` (R409). -/
def doIncReg (r : Reg8) : State → Out :=
  complete 1 4 fun s =>
    let v := inc8 (s.regs.get r) s.regs.cf
    (s.setReg r v.value).putFlags v

/-- `DEC r` (R411). -/
def doDecReg (r : Reg8) : State → Out :=
  complete 1 4 fun s =>
    let v := dec8 (s.regs.get r) s.regs.cf
    (s.setReg r v.value).putFlags v

/-- `INC (HL)` (R410). -/
def doIncMem : State → Out :=
  complete 1 12 fun s =>
    let v := inc8 (s.readByte s.regs.hl) s.regs.cf
    (s.writeByte s.regs.hl v.value).putFlags v

/-- `DEC (HL)` (R412). -/
def doDecMem : State → Out :=
  complete 1 12 fun s =>
    let v := dec8 (s.readByte s.regs.hl) s.regs.cf
    (s.writeByte s.regs.hl v.value).putFlags v

/-- `DAA` (R413). -/
def doDaa : State → Out :=
  complete 1 4 fun s =>
    let r := daa8 s.regs.a s.regs.nf s.regs.hf s.regs.cf
    (s.setReg .a r.value).putFlags r

/-- `CPL` (R414). -/
def doCpl : State → Out :=
  complete 1 4 fun s => (s.setReg .a (~~~s.regs.a)).setFlags s.regs.zf true true s.regs.cf

/-- `SCF` (R415). -/
def doScf : State → Out :=
  complete 1 4 fun s => s.setFlags s.regs.zf false false true

/-- `CCF` (R416). -/
def doCcf : State → Out :=
  complete 1 4 fun s => s.setFlags s.regs.zf false false (!s.regs.cf)

/-- `INC B` (0x04): R409. -/
def execIncB (s : State) : Out := doIncReg .b s

/-- `DEC B` (0x05): R411. -/
def execDecB (s : State) : Out := doDecReg .b s

/-- `INC C` (0x0C): R409. -/
def execIncC (s : State) : Out := doIncReg .c s

/-- `DEC C` (0x0D): R411. -/
def execDecC (s : State) : Out := doDecReg .c s

/-- `INC D` (0x14): R409. -/
def execIncD (s : State) : Out := doIncReg .d s

/-- `DEC D` (0x15): R411. -/
def execDecD (s : State) : Out := doDecReg .d s

/-- `INC E` (0x1C): R409. -/
def execIncE (s : State) : Out := doIncReg .e s

/-- `DEC E` (0x1D): R411. -/
def execDecE (s : State) : Out := doDecReg .e s

/-- `INC H` (0x24): R409. -/
def execIncH (s : State) : Out := doIncReg .h s

/-- `DEC H` (0x25): R411. -/
def execDecH (s : State) : Out := doDecReg .h s

/-- `DAA` (0x27): R413. -/
def execDaa (s : State) : Out := doDaa s

/-- `INC L` (0x2C): R409. -/
def execIncL (s : State) : Out := doIncReg .l s

/-- `DEC L` (0x2D): R411. -/
def execDecL (s : State) : Out := doDecReg .l s

/-- `CPL` (0x2F): R414. -/
def execCpl (s : State) : Out := doCpl s

/-- `INC (HL)` (0x34): R410. -/
def execIncMemHl (s : State) : Out := doIncMem s

/-- `DEC (HL)` (0x35): R412. -/
def execDecMemHl (s : State) : Out := doDecMem s

/-- `SCF` (0x37): R415. -/
def execScf (s : State) : Out := doScf s

/-- `INC A` (0x3C): R409. -/
def execIncA (s : State) : Out := doIncReg .a s

/-- `DEC A` (0x3D): R411. -/
def execDecA (s : State) : Out := doDecReg .a s

/-- `CCF` (0x3F): R416. -/
def execCcf (s : State) : Out := doCcf s

/-- `ADD A,B` (0x80): R401. -/
def execAddAB (s : State) : Out := doAlu .add (.reg .b) s

/-- `ADD A,C` (0x81): R401. -/
def execAddAC (s : State) : Out := doAlu .add (.reg .c) s

/-- `ADD A,D` (0x82): R401. -/
def execAddAD (s : State) : Out := doAlu .add (.reg .d) s

/-- `ADD A,E` (0x83): R401. -/
def execAddAE (s : State) : Out := doAlu .add (.reg .e) s

/-- `ADD A,H` (0x84): R401. -/
def execAddAH (s : State) : Out := doAlu .add (.reg .h) s

/-- `ADD A,L` (0x85): R401. -/
def execAddAL (s : State) : Out := doAlu .add (.reg .l) s

/-- `ADD A,(HL)` (0x86): R401. -/
def execAddAMemHl (s : State) : Out := doAlu .add .memHl s

/-- `ADD A,A` (0x87): R401. -/
def execAddAA (s : State) : Out := doAlu .add (.reg .a) s

/-- `ADC A,B` (0x88): R402. -/
def execAdcAB (s : State) : Out := doAlu .adc (.reg .b) s

/-- `ADC A,C` (0x89): R402. -/
def execAdcAC (s : State) : Out := doAlu .adc (.reg .c) s

/-- `ADC A,D` (0x8A): R402. -/
def execAdcAD (s : State) : Out := doAlu .adc (.reg .d) s

/-- `ADC A,E` (0x8B): R402. -/
def execAdcAE (s : State) : Out := doAlu .adc (.reg .e) s

/-- `ADC A,H` (0x8C): R402. -/
def execAdcAH (s : State) : Out := doAlu .adc (.reg .h) s

/-- `ADC A,L` (0x8D): R402. -/
def execAdcAL (s : State) : Out := doAlu .adc (.reg .l) s

/-- `ADC A,(HL)` (0x8E): R402. -/
def execAdcAMemHl (s : State) : Out := doAlu .adc .memHl s

/-- `ADC A,A` (0x8F): R402. -/
def execAdcAA (s : State) : Out := doAlu .adc (.reg .a) s

/-- `SUB B` (0x90): R403. -/
def execSubB (s : State) : Out := doAlu .sub (.reg .b) s

/-- `SUB C` (0x91): R403. -/
def execSubC (s : State) : Out := doAlu .sub (.reg .c) s

/-- `SUB D` (0x92): R403. -/
def execSubD (s : State) : Out := doAlu .sub (.reg .d) s

/-- `SUB E` (0x93): R403. -/
def execSubE (s : State) : Out := doAlu .sub (.reg .e) s

/-- `SUB H` (0x94): R403. -/
def execSubH (s : State) : Out := doAlu .sub (.reg .h) s

/-- `SUB L` (0x95): R403. -/
def execSubL (s : State) : Out := doAlu .sub (.reg .l) s

/-- `SUB (HL)` (0x96): R403. -/
def execSubMemHl (s : State) : Out := doAlu .sub .memHl s

/-- `SUB A` (0x97): R403. -/
def execSubA (s : State) : Out := doAlu .sub (.reg .a) s

/-- `SBC A,B` (0x98): R404. -/
def execSbcAB (s : State) : Out := doAlu .sbc (.reg .b) s

/-- `SBC A,C` (0x99): R404. -/
def execSbcAC (s : State) : Out := doAlu .sbc (.reg .c) s

/-- `SBC A,D` (0x9A): R404. -/
def execSbcAD (s : State) : Out := doAlu .sbc (.reg .d) s

/-- `SBC A,E` (0x9B): R404. -/
def execSbcAE (s : State) : Out := doAlu .sbc (.reg .e) s

/-- `SBC A,H` (0x9C): R404. -/
def execSbcAH (s : State) : Out := doAlu .sbc (.reg .h) s

/-- `SBC A,L` (0x9D): R404. -/
def execSbcAL (s : State) : Out := doAlu .sbc (.reg .l) s

/-- `SBC A,(HL)` (0x9E): R404. -/
def execSbcAMemHl (s : State) : Out := doAlu .sbc .memHl s

/-- `SBC A,A` (0x9F): R404. -/
def execSbcAA (s : State) : Out := doAlu .sbc (.reg .a) s

/-- `AND B` (0xA0): R405. -/
def execAndB (s : State) : Out := doAlu .and (.reg .b) s

/-- `AND C` (0xA1): R405. -/
def execAndC (s : State) : Out := doAlu .and (.reg .c) s

/-- `AND D` (0xA2): R405. -/
def execAndD (s : State) : Out := doAlu .and (.reg .d) s

/-- `AND E` (0xA3): R405. -/
def execAndE (s : State) : Out := doAlu .and (.reg .e) s

/-- `AND H` (0xA4): R405. -/
def execAndH (s : State) : Out := doAlu .and (.reg .h) s

/-- `AND L` (0xA5): R405. -/
def execAndL (s : State) : Out := doAlu .and (.reg .l) s

/-- `AND (HL)` (0xA6): R405. -/
def execAndMemHl (s : State) : Out := doAlu .and .memHl s

/-- `AND A` (0xA7): R405. -/
def execAndA (s : State) : Out := doAlu .and (.reg .a) s

/-- `XOR B` (0xA8): R406. -/
def execXorB (s : State) : Out := doAlu .xor (.reg .b) s

/-- `XOR C` (0xA9): R406. -/
def execXorC (s : State) : Out := doAlu .xor (.reg .c) s

/-- `XOR D` (0xAA): R406. -/
def execXorD (s : State) : Out := doAlu .xor (.reg .d) s

/-- `XOR E` (0xAB): R406. -/
def execXorE (s : State) : Out := doAlu .xor (.reg .e) s

/-- `XOR H` (0xAC): R406. -/
def execXorH (s : State) : Out := doAlu .xor (.reg .h) s

/-- `XOR L` (0xAD): R406. -/
def execXorL (s : State) : Out := doAlu .xor (.reg .l) s

/-- `XOR (HL)` (0xAE): R406. -/
def execXorMemHl (s : State) : Out := doAlu .xor .memHl s

/-- `XOR A` (0xAF): R406. -/
def execXorA (s : State) : Out := doAlu .xor (.reg .a) s

/-- `OR B` (0xB0): R407. -/
def execOrB (s : State) : Out := doAlu .or (.reg .b) s

/-- `OR C` (0xB1): R407. -/
def execOrC (s : State) : Out := doAlu .or (.reg .c) s

/-- `OR D` (0xB2): R407. -/
def execOrD (s : State) : Out := doAlu .or (.reg .d) s

/-- `OR E` (0xB3): R407. -/
def execOrE (s : State) : Out := doAlu .or (.reg .e) s

/-- `OR H` (0xB4): R407. -/
def execOrH (s : State) : Out := doAlu .or (.reg .h) s

/-- `OR L` (0xB5): R407. -/
def execOrL (s : State) : Out := doAlu .or (.reg .l) s

/-- `OR (HL)` (0xB6): R407. -/
def execOrMemHl (s : State) : Out := doAlu .or .memHl s

/-- `OR A` (0xB7): R407. -/
def execOrA (s : State) : Out := doAlu .or (.reg .a) s

/-- `CP B` (0xB8): R408. -/
def execCpB (s : State) : Out := doAlu .cp (.reg .b) s

/-- `CP C` (0xB9): R408. -/
def execCpC (s : State) : Out := doAlu .cp (.reg .c) s

/-- `CP D` (0xBA): R408. -/
def execCpD (s : State) : Out := doAlu .cp (.reg .d) s

/-- `CP E` (0xBB): R408. -/
def execCpE (s : State) : Out := doAlu .cp (.reg .e) s

/-- `CP H` (0xBC): R408. -/
def execCpH (s : State) : Out := doAlu .cp (.reg .h) s

/-- `CP L` (0xBD): R408. -/
def execCpL (s : State) : Out := doAlu .cp (.reg .l) s

/-- `CP (HL)` (0xBE): R408. -/
def execCpMemHl (s : State) : Out := doAlu .cp .memHl s

/-- `CP A` (0xBF): R408. -/
def execCpA (s : State) : Out := doAlu .cp (.reg .a) s

/-- `ADD A,n8` (0xC6): R401. -/
def execAddAN8 (n : Byte) (s : State) : Out := doAlu .add (.imm n) s

/-- `ADC A,n8` (0xCE): R402. -/
def execAdcAN8 (n : Byte) (s : State) : Out := doAlu .adc (.imm n) s

/-- `SUB n8` (0xD6): R403. -/
def execSubN8 (n : Byte) (s : State) : Out := doAlu .sub (.imm n) s

/-- `SBC A,n8` (0xDE): R404. -/
def execSbcAN8 (n : Byte) (s : State) : Out := doAlu .sbc (.imm n) s

/-- `AND n8` (0xE6): R405. -/
def execAndN8 (n : Byte) (s : State) : Out := doAlu .and (.imm n) s

/-- `XOR n8` (0xEE): R406. -/
def execXorN8 (n : Byte) (s : State) : Out := doAlu .xor (.imm n) s

/-- `OR n8` (0xF6): R407. -/
def execOrN8 (n : Byte) (s : State) : Out := doAlu .or (.imm n) s

/-- `CP n8` (0xFE): R408. -/
def execCpN8 (n : Byte) (s : State) : Out := doAlu .cp (.imm n) s

end Sys2Proof.Machine
end

