-- ==== Sys2Proof/Machine/Control.lean ====
section
/-! DEFINITION. The meanings of 44_control.md R500 to R512: jumps, calls, returns and restarts (30 rows); any 16-bit value is a valid target (R512): shared operations first, then one meaning per row. -/

namespace Sys2Proof.Machine

/-- `JP n16` (R500). -/
def doJp (nn : Word) : State → Out :=
  complete 3 16 fun s => s.setPc nn

/-- `JP cc,n16` (R501). -/
def doJpCond (cc : Cond) (nn : Word) : State → Out :=
  completeIf cc 3 16 12 fun s => s.setPc nn

/-- `JP HL` (R502). -/
def doJpHl : State → Out :=
  complete 1 4 fun s => s.setPc s.regs.hl

/-- `JR e8`, relative to the address after the instruction (R503). -/
def doJr (e : Byte) : State → Out :=
  complete 2 12 fun s => s.setPc (s.regs.pc + displacement e)

/-- `JR cc,e8` (R504). -/
def doJrCond (cc : Cond) (e : Byte) : State → Out :=
  completeIf cc 2 12 8 fun s => s.setPc (s.regs.pc + displacement e)

/-- `CALL n16`: the return address is the address after the instruction (R505). -/
def doCall (nn : Word) : State → Out :=
  complete 3 24 fun s => (s.push16 s.regs.pc).setPc nn

/-- `CALL cc,n16` (R506). -/
def doCallCond (cc : Cond) (nn : Word) : State → Out :=
  completeIf cc 3 24 12 fun s => (s.push16 s.regs.pc).setPc nn

/-- `RET` (R507). -/
def doRet : State → Out :=
  complete 1 16 fun s => s.dropWord.setPc s.popValue

/-- `RET cc` (R508). -/
def doRetCond (cc : Cond) : State → Out :=
  completeIf cc 1 20 8 fun s => s.dropWord.setPc s.popValue

/-- `RETI`: IME is set at once (R509, 70_reset_and_hazards.md R814). -/
def doReti : State → Out :=
  complete 1 16 fun s => { s.dropWord.setPc s.popValue with ime := true }

/-- `RST t`, t = 8 y (R510). -/
def doRst (y : Fin 8) : State → Out :=
  complete 1 16 fun s => (s.push16 s.regs.pc).setPc (BitVec.ofNat 16 (8 * y.val))

/-- `JR e8` (0x18): R503. -/
def execJrE8 (e : Byte) (s : State) : Out := doJr e s

/-- `JR NZ,e8` (0x20): R504. -/
def execJrNzE8 (e : Byte) (s : State) : Out := doJrCond .nz e s

/-- `JR Z,e8` (0x28): R504. -/
def execJrZE8 (e : Byte) (s : State) : Out := doJrCond .z e s

/-- `JR NC,e8` (0x30): R504. -/
def execJrNcE8 (e : Byte) (s : State) : Out := doJrCond .nc e s

/-- `JR C,e8` (0x38): R504. -/
def execJrCE8 (e : Byte) (s : State) : Out := doJrCond .c e s

/-- `RET NZ` (0xC0): R508. -/
def execRetNz (s : State) : Out := doRetCond .nz s

/-- `JP NZ,n16` (0xC2): R501. -/
def execJpNzN16 (nn : Word) (s : State) : Out := doJpCond .nz nn s

/-- `JP n16` (0xC3): R500. -/
def execJpN16 (nn : Word) (s : State) : Out := doJp nn s

/-- `CALL NZ,n16` (0xC4): R506. -/
def execCallNzN16 (nn : Word) (s : State) : Out := doCallCond .nz nn s

/-- `RST 00h` (0xC7): R510. -/
def execRst00 (s : State) : Out := doRst 0 s

/-- `RET Z` (0xC8): R508. -/
def execRetZ (s : State) : Out := doRetCond .z s

/-- `RET` (0xC9): R507. -/
def execRet (s : State) : Out := doRet s

/-- `JP Z,n16` (0xCA): R501. -/
def execJpZN16 (nn : Word) (s : State) : Out := doJpCond .z nn s

/-- `CALL Z,n16` (0xCC): R506. -/
def execCallZN16 (nn : Word) (s : State) : Out := doCallCond .z nn s

/-- `CALL n16` (0xCD): R505. -/
def execCallN16 (nn : Word) (s : State) : Out := doCall nn s

/-- `RST 08h` (0xCF): R510. -/
def execRst08 (s : State) : Out := doRst 1 s

/-- `RET NC` (0xD0): R508. -/
def execRetNc (s : State) : Out := doRetCond .nc s

/-- `JP NC,n16` (0xD2): R501. -/
def execJpNcN16 (nn : Word) (s : State) : Out := doJpCond .nc nn s

/-- `CALL NC,n16` (0xD4): R506. -/
def execCallNcN16 (nn : Word) (s : State) : Out := doCallCond .nc nn s

/-- `RST 10h` (0xD7): R510. -/
def execRst10 (s : State) : Out := doRst 2 s

/-- `RET C` (0xD8): R508. -/
def execRetC (s : State) : Out := doRetCond .c s

/-- `RETI` (0xD9): R509. -/
def execReti (s : State) : Out := doReti s

/-- `JP C,n16` (0xDA): R501. -/
def execJpCN16 (nn : Word) (s : State) : Out := doJpCond .c nn s

/-- `CALL C,n16` (0xDC): R506. -/
def execCallCN16 (nn : Word) (s : State) : Out := doCallCond .c nn s

/-- `RST 18h` (0xDF): R510. -/
def execRst18 (s : State) : Out := doRst 3 s

/-- `RST 20h` (0xE7): R510. -/
def execRst20 (s : State) : Out := doRst 4 s

/-- `JP HL` (0xE9): R502. -/
def execJpHl (s : State) : Out := doJpHl s

/-- `RST 28h` (0xEF): R510. -/
def execRst28 (s : State) : Out := doRst 5 s

/-- `RST 30h` (0xF7): R510. -/
def execRst30 (s : State) : Out := doRst 6 s

/-- `RST 38h` (0xFF): R510. -/
def execRst38 (s : State) : Out := doRst 7 s

end Sys2Proof.Machine
end

