-- ==== Sys2Proof/Machine/Load.lean ====
section
/-! DEFINITION. The meanings of 40_load.md R300 to R326: loads, stores and stack transfers (99 rows): shared operations first, then one meaning per row. -/

namespace Sys2Proof.Machine

/-- `LD r,r'` (R300). -/
def doLdRegReg (dst r : Reg8) : State → Out :=
  complete 1 4 fun s => s.setReg dst (s.regs.get r)

/-- `LD r,n8` (R301). -/
def doLdRegImm (dst : Reg8) (n : Byte) : State → Out :=
  complete 2 8 fun s => s.setReg dst n

/-- `LD r,(HL)`; the address is formed before the write (R302). -/
def doLdRegMem (dst : Reg8) : State → Out :=
  complete 1 8 fun s => s.setReg dst (s.readByte s.regs.hl)

/-- `LD (HL),r` (R303). -/
def doLdMemReg (r : Reg8) : State → Out :=
  complete 1 8 fun s => s.writeByte s.regs.hl (s.regs.get r)

/-- `LD (HL),n8` (R304). -/
def doLdMemImm (n : Byte) : State → Out :=
  complete 2 12 fun s => s.writeByte s.regs.hl n

/-- `LD A,(…)` at an address the registers or the immediate give (R305, R306, R309, R311, R313). -/
def doLoadA (len cost : Nat) (address : Regs → Word) : State → Out :=
  complete len cost fun s => s.setReg .a (s.readByte (address s.regs))

/-- `LD (…),A` at an address the registers or the immediate give (R307, R308, R310, R312, R314). -/
def doStoreA (len cost : Nat) (address : Regs → Word) : State → Out :=
  complete len cost fun s => s.writeByte (address s.regs) s.regs.a

/-- `LD A,(HL+)` and `LD A,(HL-)`, HL changed by `step` after the read (R315, R316). -/
def doLoadAStep (step : Word → Word) : State → Out :=
  complete 1 8 fun s => (s.setReg .a (s.readByte s.regs.hl)).mapRegs fun g => g.setHl (step g.hl)

/-- `LD (HL+),A` and `LD (HL-),A`, HL changed by `step` after the write (R317, R318). -/
def doStoreAStep (step : Word → Word) : State → Out :=
  complete 1 8 fun s => (s.writeByte s.regs.hl s.regs.a).mapRegs fun g => g.setHl (step g.hl)

/-- `LD rr,n16` (R319). -/
def doLdPairImm (p : Pair) (nn : Word) : State → Out :=
  complete 3 12 fun s => s.mapRegs fun g => g.setPair p nn

/-- `LD (n16),SP` (R320). -/
def doLdMemSp (nn : Word) : State → Out :=
  complete 3 20 fun s => s.writeWord nn s.regs.sp

/-- `LD SP,HL` (R321). -/
def doLdSpHl : State → Out :=
  complete 1 8 fun s => s.setSp s.regs.hl

/-- `PUSH rr` (R324). -/
def doPush (q : StackPair) : State → Out :=
  complete 1 16 fun s => s.push16 (s.regs.stackPair q)

/-- `POP rr` (R325, R326). -/
def doPop (q : StackPair) : State → Out :=
  complete 1 12 fun s => s.dropWord.mapRegs fun g => g.setStackPair q s.popValue

/-- `LD BC,n16` (0x01): R319. -/
def execLdBcN16 (nn : Word) (s : State) : Out := doLdPairImm .bc nn s

/-- `LD (BC),A` (0x02): R307. -/
def execLdMemBcA (s : State) : Out := doStoreA 1 8 Regs.bc s

/-- `LD B,n8` (0x06): R301. -/
def execLdBN8 (n : Byte) (s : State) : Out := doLdRegImm .b n s

/-- `LD (n16),SP` (0x08): R320. -/
def execLdMemN16Sp (nn : Word) (s : State) : Out := doLdMemSp nn s

/-- `LD A,(BC)` (0x0A): R305. -/
def execLdAMemBc (s : State) : Out := doLoadA 1 8 Regs.bc s

/-- `LD C,n8` (0x0E): R301. -/
def execLdCN8 (n : Byte) (s : State) : Out := doLdRegImm .c n s

/-- `LD DE,n16` (0x11): R319. -/
def execLdDeN16 (nn : Word) (s : State) : Out := doLdPairImm .de nn s

/-- `LD (DE),A` (0x12): R308. -/
def execLdMemDeA (s : State) : Out := doStoreA 1 8 Regs.de s

/-- `LD D,n8` (0x16): R301. -/
def execLdDN8 (n : Byte) (s : State) : Out := doLdRegImm .d n s

/-- `LD A,(DE)` (0x1A): R306. -/
def execLdAMemDe (s : State) : Out := doLoadA 1 8 Regs.de s

/-- `LD E,n8` (0x1E): R301. -/
def execLdEN8 (n : Byte) (s : State) : Out := doLdRegImm .e n s

/-- `LD HL,n16` (0x21): R319. -/
def execLdHlN16 (nn : Word) (s : State) : Out := doLdPairImm .hl nn s

/-- `LD (HL+),A` (0x22): R317. -/
def execLdMemHlIncA (s : State) : Out := doStoreAStep (· + 1) s

/-- `LD H,n8` (0x26): R301. -/
def execLdHN8 (n : Byte) (s : State) : Out := doLdRegImm .h n s

/-- `LD A,(HL+)` (0x2A): R315. -/
def execLdAMemHlInc (s : State) : Out := doLoadAStep (· + 1) s

/-- `LD L,n8` (0x2E): R301. -/
def execLdLN8 (n : Byte) (s : State) : Out := doLdRegImm .l n s

/-- `LD SP,n16` (0x31): R319. -/
def execLdSpN16 (nn : Word) (s : State) : Out := doLdPairImm .sp nn s

/-- `LD (HL-),A` (0x32): R318. -/
def execLdMemHlDecA (s : State) : Out := doStoreAStep (· - 1) s

/-- `LD (HL),n8` (0x36): R304. -/
def execLdMemHlN8 (n : Byte) (s : State) : Out := doLdMemImm n s

/-- `LD A,(HL-)` (0x3A): R316. -/
def execLdAMemHlDec (s : State) : Out := doLoadAStep (· - 1) s

/-- `LD A,n8` (0x3E): R301. -/
def execLdAN8 (n : Byte) (s : State) : Out := doLdRegImm .a n s

/-- `LD B,B` (0x40): R300. -/
def execLdBB (s : State) : Out := doLdRegReg .b .b s

/-- `LD B,C` (0x41): R300. -/
def execLdBC (s : State) : Out := doLdRegReg .b .c s

/-- `LD B,D` (0x42): R300. -/
def execLdBD (s : State) : Out := doLdRegReg .b .d s

/-- `LD B,E` (0x43): R300. -/
def execLdBE (s : State) : Out := doLdRegReg .b .e s

/-- `LD B,H` (0x44): R300. -/
def execLdBH (s : State) : Out := doLdRegReg .b .h s

/-- `LD B,L` (0x45): R300. -/
def execLdBL (s : State) : Out := doLdRegReg .b .l s

/-- `LD B,(HL)` (0x46): R302. -/
def execLdBMemHl (s : State) : Out := doLdRegMem .b s

/-- `LD B,A` (0x47): R300. -/
def execLdBA (s : State) : Out := doLdRegReg .b .a s

/-- `LD C,B` (0x48): R300. -/
def execLdCB (s : State) : Out := doLdRegReg .c .b s

/-- `LD C,C` (0x49): R300. -/
def execLdCC (s : State) : Out := doLdRegReg .c .c s

/-- `LD C,D` (0x4A): R300. -/
def execLdCD (s : State) : Out := doLdRegReg .c .d s

/-- `LD C,E` (0x4B): R300. -/
def execLdCE (s : State) : Out := doLdRegReg .c .e s

/-- `LD C,H` (0x4C): R300. -/
def execLdCH (s : State) : Out := doLdRegReg .c .h s

/-- `LD C,L` (0x4D): R300. -/
def execLdCL (s : State) : Out := doLdRegReg .c .l s

/-- `LD C,(HL)` (0x4E): R302. -/
def execLdCMemHl (s : State) : Out := doLdRegMem .c s

/-- `LD C,A` (0x4F): R300. -/
def execLdCA (s : State) : Out := doLdRegReg .c .a s

/-- `LD D,B` (0x50): R300. -/
def execLdDB (s : State) : Out := doLdRegReg .d .b s

/-- `LD D,C` (0x51): R300. -/
def execLdDC (s : State) : Out := doLdRegReg .d .c s

/-- `LD D,D` (0x52): R300. -/
def execLdDD (s : State) : Out := doLdRegReg .d .d s

/-- `LD D,E` (0x53): R300. -/
def execLdDE (s : State) : Out := doLdRegReg .d .e s

/-- `LD D,H` (0x54): R300. -/
def execLdDH (s : State) : Out := doLdRegReg .d .h s

/-- `LD D,L` (0x55): R300. -/
def execLdDL (s : State) : Out := doLdRegReg .d .l s

/-- `LD D,(HL)` (0x56): R302. -/
def execLdDMemHl (s : State) : Out := doLdRegMem .d s

/-- `LD D,A` (0x57): R300. -/
def execLdDA (s : State) : Out := doLdRegReg .d .a s

/-- `LD E,B` (0x58): R300. -/
def execLdEB (s : State) : Out := doLdRegReg .e .b s

/-- `LD E,C` (0x59): R300. -/
def execLdEC (s : State) : Out := doLdRegReg .e .c s

/-- `LD E,D` (0x5A): R300. -/
def execLdED (s : State) : Out := doLdRegReg .e .d s

/-- `LD E,E` (0x5B): R300. -/
def execLdEE (s : State) : Out := doLdRegReg .e .e s

/-- `LD E,H` (0x5C): R300. -/
def execLdEH (s : State) : Out := doLdRegReg .e .h s

/-- `LD E,L` (0x5D): R300. -/
def execLdEL (s : State) : Out := doLdRegReg .e .l s

/-- `LD E,(HL)` (0x5E): R302. -/
def execLdEMemHl (s : State) : Out := doLdRegMem .e s

/-- `LD E,A` (0x5F): R300. -/
def execLdEA (s : State) : Out := doLdRegReg .e .a s

/-- `LD H,B` (0x60): R300. -/
def execLdHB (s : State) : Out := doLdRegReg .h .b s

/-- `LD H,C` (0x61): R300. -/
def execLdHC (s : State) : Out := doLdRegReg .h .c s

/-- `LD H,D` (0x62): R300. -/
def execLdHD (s : State) : Out := doLdRegReg .h .d s

/-- `LD H,E` (0x63): R300. -/
def execLdHE (s : State) : Out := doLdRegReg .h .e s

/-- `LD H,H` (0x64): R300. -/
def execLdHH (s : State) : Out := doLdRegReg .h .h s

/-- `LD H,L` (0x65): R300. -/
def execLdHL (s : State) : Out := doLdRegReg .h .l s

/-- `LD H,(HL)` (0x66): R302. -/
def execLdHMemHl (s : State) : Out := doLdRegMem .h s

/-- `LD H,A` (0x67): R300. -/
def execLdHA (s : State) : Out := doLdRegReg .h .a s

/-- `LD L,B` (0x68): R300. -/
def execLdLB (s : State) : Out := doLdRegReg .l .b s

/-- `LD L,C` (0x69): R300. -/
def execLdLC (s : State) : Out := doLdRegReg .l .c s

/-- `LD L,D` (0x6A): R300. -/
def execLdLD (s : State) : Out := doLdRegReg .l .d s

/-- `LD L,E` (0x6B): R300. -/
def execLdLE (s : State) : Out := doLdRegReg .l .e s

/-- `LD L,H` (0x6C): R300. -/
def execLdLH (s : State) : Out := doLdRegReg .l .h s

/-- `LD L,L` (0x6D): R300. -/
def execLdLL (s : State) : Out := doLdRegReg .l .l s

/-- `LD L,(HL)` (0x6E): R302. -/
def execLdLMemHl (s : State) : Out := doLdRegMem .l s

/-- `LD L,A` (0x6F): R300. -/
def execLdLA (s : State) : Out := doLdRegReg .l .a s

/-- `LD (HL),B` (0x70): R303. -/
def execLdMemHlB (s : State) : Out := doLdMemReg .b s

/-- `LD (HL),C` (0x71): R303. -/
def execLdMemHlC (s : State) : Out := doLdMemReg .c s

/-- `LD (HL),D` (0x72): R303. -/
def execLdMemHlD (s : State) : Out := doLdMemReg .d s

/-- `LD (HL),E` (0x73): R303. -/
def execLdMemHlE (s : State) : Out := doLdMemReg .e s

/-- `LD (HL),H` (0x74): R303. -/
def execLdMemHlH (s : State) : Out := doLdMemReg .h s

/-- `LD (HL),L` (0x75): R303. -/
def execLdMemHlL (s : State) : Out := doLdMemReg .l s

/-- `LD (HL),A` (0x77): R303. -/
def execLdMemHlA (s : State) : Out := doLdMemReg .a s

/-- `LD A,B` (0x78): R300. -/
def execLdAB (s : State) : Out := doLdRegReg .a .b s

/-- `LD A,C` (0x79): R300. -/
def execLdAC (s : State) : Out := doLdRegReg .a .c s

/-- `LD A,D` (0x7A): R300. -/
def execLdAD (s : State) : Out := doLdRegReg .a .d s

/-- `LD A,E` (0x7B): R300. -/
def execLdAE (s : State) : Out := doLdRegReg .a .e s

/-- `LD A,H` (0x7C): R300. -/
def execLdAH (s : State) : Out := doLdRegReg .a .h s

/-- `LD A,L` (0x7D): R300. -/
def execLdAL (s : State) : Out := doLdRegReg .a .l s

/-- `LD A,(HL)` (0x7E): R302. -/
def execLdAMemHl (s : State) : Out := doLdRegMem .a s

/-- `LD A,A` (0x7F): R300. -/
def execLdAA (s : State) : Out := doLdRegReg .a .a s

/-- `POP BC` (0xC1): R325. -/
def execPopBc (s : State) : Out := doPop .bc s

/-- `PUSH BC` (0xC5): R324. -/
def execPushBc (s : State) : Out := doPush .bc s

/-- `POP DE` (0xD1): R325. -/
def execPopDe (s : State) : Out := doPop .de s

/-- `PUSH DE` (0xD5): R324. -/
def execPushDe (s : State) : Out := doPush .de s

/-- `LDH (n8),A` (0xE0): R312. -/
def execLdhMemN8A (n : Byte) (s : State) : Out := doStoreA 2 12 (fun _ => highPage n) s

/-- `POP HL` (0xE1): R325. -/
def execPopHl (s : State) : Out := doPop .hl s

/-- `LD (C),A` (0xE2): R314. -/
def execLdMemCA (s : State) : Out := doStoreA 1 8 (fun g => highPage g.c) s

/-- `PUSH HL` (0xE5): R324. -/
def execPushHl (s : State) : Out := doPush .hl s

/-- `LD (n16),A` (0xEA): R310. -/
def execLdMemN16A (nn : Word) (s : State) : Out := doStoreA 3 16 (fun _ => nn) s

/-- `LDH A,(n8)` (0xF0): R311. -/
def execLdhAMemN8 (n : Byte) (s : State) : Out := doLoadA 2 12 (fun _ => highPage n) s

/-- `POP AF` (0xF1): R326. -/
def execPopAf (s : State) : Out := doPop .af s

/-- `LD A,(C)` (0xF2): R313. -/
def execLdAMemC (s : State) : Out := doLoadA 1 8 (fun g => highPage g.c) s

/-- `PUSH AF` (0xF5): R324. -/
def execPushAf (s : State) : Out := doPush .af s

/-- `LD SP,HL` (0xF9): R321. -/
def execLdSpHl (s : State) : Out := doLdSpHl s

/-- `LD A,(n16)` (0xFA): R309. -/
def execLdAMemN16 (nn : Word) (s : State) : Out := doLoadA 3 16 (fun _ => nn) s

end Sys2Proof.Machine
end

