-- ==== Sys2Proof/Machine/RotateA.lean ====
section
/-! DEFINITION. The meanings of 43_rotate_a.md R480 to R483: the accumulator rotates (4 rows): shared operations first, then one meaning per row. -/

namespace Sys2Proof.Machine

/-- A one-byte rotate of A; Z is always cleared (R480 to R483). -/
def doRotateA (k : ShiftOp) : State → Out :=
  complete 1 4 fun s =>
    let r := shift8 k s.regs.a s.regs.cf
    (s.setReg .a r.1).setFlags false false false r.2

/-- `RLCA` (0x07): R480. -/
def execRlca (s : State) : Out := doRotateA .rlc s

/-- `RRCA` (0x0F): R481. -/
def execRrca (s : State) : Out := doRotateA .rrc s

/-- `RLA` (0x17): R482. -/
def execRla (s : State) : Out := doRotateA .rl s

/-- `RRA` (0x1F): R483. -/
def execRra (s : State) : Out := doRotateA .rr s

end Sys2Proof.Machine
end

