-- ==== Sys2Proof/Machine/CbPrefix.lean ====
section
/-! DEFINITION. The meanings of 46_cb_prefix.md R600 to R614: the 0xCB table (256 rows) and the prefix row (45_system.md R558): shared operations first, then one meaning per row. -/

namespace Sys2Proof.Machine

/-- The cost of a shift, rotate, RES or SET (R602). -/
def cbCost : Operand8 → Nat
  | .reg _ => 8
  | .memHl => 16

/-- The cost of BIT; over (HL) the parameter `CB_BIT_HL_CYCLES` (R602, log entry 2). -/
def bitCost (params : Config.Params) : Operand8 → Nat
  | .reg _ => 8
  | .memHl => params.bitHlCost.cycles

/-- A shift or rotate: read, write back, `F.flags <- (w == 0, 0, 0, out)` (R603 to R611). -/
def doShift (k : ShiftOp) (o : Operand8) : State → Out :=
  complete 2 (cbCost o) fun s =>
    let r := shift8 k (s.readOperand o) s.regs.cf
    (s.writeOperand o r.1).setFlags (r.1 = 0) false false r.2

/-- `BIT b,o`: no write-back, C kept (R603, R612). -/
def doBit (b : Fin 8) (o : Operand8) (s : State) : Out :=
  complete 2 (bitCost s.params o) (fun s => s.setFlags (!(s.readOperand o).getLsbD b.val) false true s.regs.cf) s

/-- `RES b,o` (R613). -/
def doRes (b : Fin 8) (o : Operand8) : State → Out :=
  complete 2 (cbCost o) fun s => s.writeOperand o (s.readOperand o &&& ~~~(1#8 <<< b.val))

/-- `SET b,o` (R614). -/
def doSet (b : Fin 8) (o : Operand8) : State → Out :=
  complete 2 (cbCost o) fun s => s.writeOperand o (s.readOperand o ||| 1#8 <<< b.val)

/-- What the prefix and a secondary byte do, by the fields x, y and z of the byte (R600). -/
def doSecondary (cb : Byte) : State → Out :=
  let x := cb.extractLsb' 6 2
  let y := cb.extractLsb' 3 3
  let o := Operand8.ofCode (cb.extractLsb' 0 3)
  if x = 0 then doShift (ShiftOp.ofCode y) o
  else if x = 1 then doBit y.toFin o
  else if x = 2 then doRes y.toFin o
  else doSet y.toFin o

/-- `RLC B` (0xCB 0x00): R604. -/
def execRlcB (s : State) : Out := doShift .rlc (.reg .b) s

/-- `RLC C` (0xCB 0x01): R604. -/
def execRlcC (s : State) : Out := doShift .rlc (.reg .c) s

/-- `RLC D` (0xCB 0x02): R604. -/
def execRlcD (s : State) : Out := doShift .rlc (.reg .d) s

/-- `RLC E` (0xCB 0x03): R604. -/
def execRlcE (s : State) : Out := doShift .rlc (.reg .e) s

/-- `RLC H` (0xCB 0x04): R604. -/
def execRlcH (s : State) : Out := doShift .rlc (.reg .h) s

/-- `RLC L` (0xCB 0x05): R604. -/
def execRlcL (s : State) : Out := doShift .rlc (.reg .l) s

/-- `RLC (HL)` (0xCB 0x06): R604. -/
def execRlcMemHl (s : State) : Out := doShift .rlc .memHl s

/-- `RLC A` (0xCB 0x07): R604. -/
def execRlcA (s : State) : Out := doShift .rlc (.reg .a) s

/-- `RRC B` (0xCB 0x08): R605. -/
def execRrcB (s : State) : Out := doShift .rrc (.reg .b) s

/-- `RRC C` (0xCB 0x09): R605. -/
def execRrcC (s : State) : Out := doShift .rrc (.reg .c) s

/-- `RRC D` (0xCB 0x0A): R605. -/
def execRrcD (s : State) : Out := doShift .rrc (.reg .d) s

/-- `RRC E` (0xCB 0x0B): R605. -/
def execRrcE (s : State) : Out := doShift .rrc (.reg .e) s

/-- `RRC H` (0xCB 0x0C): R605. -/
def execRrcH (s : State) : Out := doShift .rrc (.reg .h) s

/-- `RRC L` (0xCB 0x0D): R605. -/
def execRrcL (s : State) : Out := doShift .rrc (.reg .l) s

/-- `RRC (HL)` (0xCB 0x0E): R605. -/
def execRrcMemHl (s : State) : Out := doShift .rrc .memHl s

/-- `RRC A` (0xCB 0x0F): R605. -/
def execRrcA (s : State) : Out := doShift .rrc (.reg .a) s

/-- `RL B` (0xCB 0x10): R606. -/
def execRlB (s : State) : Out := doShift .rl (.reg .b) s

/-- `RL C` (0xCB 0x11): R606. -/
def execRlC (s : State) : Out := doShift .rl (.reg .c) s

/-- `RL D` (0xCB 0x12): R606. -/
def execRlD (s : State) : Out := doShift .rl (.reg .d) s

/-- `RL E` (0xCB 0x13): R606. -/
def execRlE (s : State) : Out := doShift .rl (.reg .e) s

/-- `RL H` (0xCB 0x14): R606. -/
def execRlH (s : State) : Out := doShift .rl (.reg .h) s

/-- `RL L` (0xCB 0x15): R606. -/
def execRlL (s : State) : Out := doShift .rl (.reg .l) s

/-- `RL (HL)` (0xCB 0x16): R606. -/
def execRlMemHl (s : State) : Out := doShift .rl .memHl s

/-- `RL A` (0xCB 0x17): R606. -/
def execRlA (s : State) : Out := doShift .rl (.reg .a) s

/-- `RR B` (0xCB 0x18): R607. -/
def execRrB (s : State) : Out := doShift .rr (.reg .b) s

/-- `RR C` (0xCB 0x19): R607. -/
def execRrC (s : State) : Out := doShift .rr (.reg .c) s

/-- `RR D` (0xCB 0x1A): R607. -/
def execRrD (s : State) : Out := doShift .rr (.reg .d) s

/-- `RR E` (0xCB 0x1B): R607. -/
def execRrE (s : State) : Out := doShift .rr (.reg .e) s

/-- `RR H` (0xCB 0x1C): R607. -/
def execRrH (s : State) : Out := doShift .rr (.reg .h) s

/-- `RR L` (0xCB 0x1D): R607. -/
def execRrL (s : State) : Out := doShift .rr (.reg .l) s

/-- `RR (HL)` (0xCB 0x1E): R607. -/
def execRrMemHl (s : State) : Out := doShift .rr .memHl s

/-- `RR A` (0xCB 0x1F): R607. -/
def execRrA (s : State) : Out := doShift .rr (.reg .a) s

/-- `SLA B` (0xCB 0x20): R608. -/
def execSlaB (s : State) : Out := doShift .sla (.reg .b) s

/-- `SLA C` (0xCB 0x21): R608. -/
def execSlaC (s : State) : Out := doShift .sla (.reg .c) s

/-- `SLA D` (0xCB 0x22): R608. -/
def execSlaD (s : State) : Out := doShift .sla (.reg .d) s

/-- `SLA E` (0xCB 0x23): R608. -/
def execSlaE (s : State) : Out := doShift .sla (.reg .e) s

/-- `SLA H` (0xCB 0x24): R608. -/
def execSlaH (s : State) : Out := doShift .sla (.reg .h) s

/-- `SLA L` (0xCB 0x25): R608. -/
def execSlaL (s : State) : Out := doShift .sla (.reg .l) s

/-- `SLA (HL)` (0xCB 0x26): R608. -/
def execSlaMemHl (s : State) : Out := doShift .sla .memHl s

/-- `SLA A` (0xCB 0x27): R608. -/
def execSlaA (s : State) : Out := doShift .sla (.reg .a) s

/-- `SRA B` (0xCB 0x28): R609. -/
def execSraB (s : State) : Out := doShift .sra (.reg .b) s

/-- `SRA C` (0xCB 0x29): R609. -/
def execSraC (s : State) : Out := doShift .sra (.reg .c) s

/-- `SRA D` (0xCB 0x2A): R609. -/
def execSraD (s : State) : Out := doShift .sra (.reg .d) s

/-- `SRA E` (0xCB 0x2B): R609. -/
def execSraE (s : State) : Out := doShift .sra (.reg .e) s

/-- `SRA H` (0xCB 0x2C): R609. -/
def execSraH (s : State) : Out := doShift .sra (.reg .h) s

/-- `SRA L` (0xCB 0x2D): R609. -/
def execSraL (s : State) : Out := doShift .sra (.reg .l) s

/-- `SRA (HL)` (0xCB 0x2E): R609. -/
def execSraMemHl (s : State) : Out := doShift .sra .memHl s

/-- `SRA A` (0xCB 0x2F): R609. -/
def execSraA (s : State) : Out := doShift .sra (.reg .a) s

/-- `SWAP B` (0xCB 0x30): R610. -/
def execSwapB (s : State) : Out := doShift .swap (.reg .b) s

/-- `SWAP C` (0xCB 0x31): R610. -/
def execSwapC (s : State) : Out := doShift .swap (.reg .c) s

/-- `SWAP D` (0xCB 0x32): R610. -/
def execSwapD (s : State) : Out := doShift .swap (.reg .d) s

/-- `SWAP E` (0xCB 0x33): R610. -/
def execSwapE (s : State) : Out := doShift .swap (.reg .e) s

/-- `SWAP H` (0xCB 0x34): R610. -/
def execSwapH (s : State) : Out := doShift .swap (.reg .h) s

/-- `SWAP L` (0xCB 0x35): R610. -/
def execSwapL (s : State) : Out := doShift .swap (.reg .l) s

/-- `SWAP (HL)` (0xCB 0x36): R610. -/
def execSwapMemHl (s : State) : Out := doShift .swap .memHl s

/-- `SWAP A` (0xCB 0x37): R610. -/
def execSwapA (s : State) : Out := doShift .swap (.reg .a) s

/-- `SRL B` (0xCB 0x38): R611. -/
def execSrlB (s : State) : Out := doShift .srl (.reg .b) s

/-- `SRL C` (0xCB 0x39): R611. -/
def execSrlC (s : State) : Out := doShift .srl (.reg .c) s

/-- `SRL D` (0xCB 0x3A): R611. -/
def execSrlD (s : State) : Out := doShift .srl (.reg .d) s

/-- `SRL E` (0xCB 0x3B): R611. -/
def execSrlE (s : State) : Out := doShift .srl (.reg .e) s

/-- `SRL H` (0xCB 0x3C): R611. -/
def execSrlH (s : State) : Out := doShift .srl (.reg .h) s

/-- `SRL L` (0xCB 0x3D): R611. -/
def execSrlL (s : State) : Out := doShift .srl (.reg .l) s

/-- `SRL (HL)` (0xCB 0x3E): R611. -/
def execSrlMemHl (s : State) : Out := doShift .srl .memHl s

/-- `SRL A` (0xCB 0x3F): R611. -/
def execSrlA (s : State) : Out := doShift .srl (.reg .a) s

/-- `BIT 0,B` (0xCB 0x40): R612. -/
def execBit0B (s : State) : Out := doBit 0 (.reg .b) s

/-- `BIT 0,C` (0xCB 0x41): R612. -/
def execBit0C (s : State) : Out := doBit 0 (.reg .c) s

/-- `BIT 0,D` (0xCB 0x42): R612. -/
def execBit0D (s : State) : Out := doBit 0 (.reg .d) s

/-- `BIT 0,E` (0xCB 0x43): R612. -/
def execBit0E (s : State) : Out := doBit 0 (.reg .e) s

/-- `BIT 0,H` (0xCB 0x44): R612. -/
def execBit0H (s : State) : Out := doBit 0 (.reg .h) s

/-- `BIT 0,L` (0xCB 0x45): R612. -/
def execBit0L (s : State) : Out := doBit 0 (.reg .l) s

/-- `BIT 0,(HL)` (0xCB 0x46): R612. -/
def execBit0MemHl (s : State) : Out := doBit 0 .memHl s

/-- `BIT 0,A` (0xCB 0x47): R612. -/
def execBit0A (s : State) : Out := doBit 0 (.reg .a) s

/-- `BIT 1,B` (0xCB 0x48): R612. -/
def execBit1B (s : State) : Out := doBit 1 (.reg .b) s

/-- `BIT 1,C` (0xCB 0x49): R612. -/
def execBit1C (s : State) : Out := doBit 1 (.reg .c) s

/-- `BIT 1,D` (0xCB 0x4A): R612. -/
def execBit1D (s : State) : Out := doBit 1 (.reg .d) s

/-- `BIT 1,E` (0xCB 0x4B): R612. -/
def execBit1E (s : State) : Out := doBit 1 (.reg .e) s

/-- `BIT 1,H` (0xCB 0x4C): R612. -/
def execBit1H (s : State) : Out := doBit 1 (.reg .h) s

/-- `BIT 1,L` (0xCB 0x4D): R612. -/
def execBit1L (s : State) : Out := doBit 1 (.reg .l) s

/-- `BIT 1,(HL)` (0xCB 0x4E): R612. -/
def execBit1MemHl (s : State) : Out := doBit 1 .memHl s

/-- `BIT 1,A` (0xCB 0x4F): R612. -/
def execBit1A (s : State) : Out := doBit 1 (.reg .a) s

/-- `BIT 2,B` (0xCB 0x50): R612. -/
def execBit2B (s : State) : Out := doBit 2 (.reg .b) s

/-- `BIT 2,C` (0xCB 0x51): R612. -/
def execBit2C (s : State) : Out := doBit 2 (.reg .c) s

/-- `BIT 2,D` (0xCB 0x52): R612. -/
def execBit2D (s : State) : Out := doBit 2 (.reg .d) s

/-- `BIT 2,E` (0xCB 0x53): R612. -/
def execBit2E (s : State) : Out := doBit 2 (.reg .e) s

/-- `BIT 2,H` (0xCB 0x54): R612. -/
def execBit2H (s : State) : Out := doBit 2 (.reg .h) s

/-- `BIT 2,L` (0xCB 0x55): R612. -/
def execBit2L (s : State) : Out := doBit 2 (.reg .l) s

/-- `BIT 2,(HL)` (0xCB 0x56): R612. -/
def execBit2MemHl (s : State) : Out := doBit 2 .memHl s

/-- `BIT 2,A` (0xCB 0x57): R612. -/
def execBit2A (s : State) : Out := doBit 2 (.reg .a) s

/-- `BIT 3,B` (0xCB 0x58): R612. -/
def execBit3B (s : State) : Out := doBit 3 (.reg .b) s

/-- `BIT 3,C` (0xCB 0x59): R612. -/
def execBit3C (s : State) : Out := doBit 3 (.reg .c) s

/-- `BIT 3,D` (0xCB 0x5A): R612. -/
def execBit3D (s : State) : Out := doBit 3 (.reg .d) s

/-- `BIT 3,E` (0xCB 0x5B): R612. -/
def execBit3E (s : State) : Out := doBit 3 (.reg .e) s

/-- `BIT 3,H` (0xCB 0x5C): R612. -/
def execBit3H (s : State) : Out := doBit 3 (.reg .h) s

/-- `BIT 3,L` (0xCB 0x5D): R612. -/
def execBit3L (s : State) : Out := doBit 3 (.reg .l) s

/-- `BIT 3,(HL)` (0xCB 0x5E): R612. -/
def execBit3MemHl (s : State) : Out := doBit 3 .memHl s

/-- `BIT 3,A` (0xCB 0x5F): R612. -/
def execBit3A (s : State) : Out := doBit 3 (.reg .a) s

/-- `BIT 4,B` (0xCB 0x60): R612. -/
def execBit4B (s : State) : Out := doBit 4 (.reg .b) s

/-- `BIT 4,C` (0xCB 0x61): R612. -/
def execBit4C (s : State) : Out := doBit 4 (.reg .c) s

/-- `BIT 4,D` (0xCB 0x62): R612. -/
def execBit4D (s : State) : Out := doBit 4 (.reg .d) s

/-- `BIT 4,E` (0xCB 0x63): R612. -/
def execBit4E (s : State) : Out := doBit 4 (.reg .e) s

/-- `BIT 4,H` (0xCB 0x64): R612. -/
def execBit4H (s : State) : Out := doBit 4 (.reg .h) s

/-- `BIT 4,L` (0xCB 0x65): R612. -/
def execBit4L (s : State) : Out := doBit 4 (.reg .l) s

/-- `BIT 4,(HL)` (0xCB 0x66): R612. -/
def execBit4MemHl (s : State) : Out := doBit 4 .memHl s

/-- `BIT 4,A` (0xCB 0x67): R612. -/
def execBit4A (s : State) : Out := doBit 4 (.reg .a) s

/-- `BIT 5,B` (0xCB 0x68): R612. -/
def execBit5B (s : State) : Out := doBit 5 (.reg .b) s

/-- `BIT 5,C` (0xCB 0x69): R612. -/
def execBit5C (s : State) : Out := doBit 5 (.reg .c) s

/-- `BIT 5,D` (0xCB 0x6A): R612. -/
def execBit5D (s : State) : Out := doBit 5 (.reg .d) s

/-- `BIT 5,E` (0xCB 0x6B): R612. -/
def execBit5E (s : State) : Out := doBit 5 (.reg .e) s

/-- `BIT 5,H` (0xCB 0x6C): R612. -/
def execBit5H (s : State) : Out := doBit 5 (.reg .h) s

/-- `BIT 5,L` (0xCB 0x6D): R612. -/
def execBit5L (s : State) : Out := doBit 5 (.reg .l) s

/-- `BIT 5,(HL)` (0xCB 0x6E): R612. -/
def execBit5MemHl (s : State) : Out := doBit 5 .memHl s

/-- `BIT 5,A` (0xCB 0x6F): R612. -/
def execBit5A (s : State) : Out := doBit 5 (.reg .a) s

/-- `BIT 6,B` (0xCB 0x70): R612. -/
def execBit6B (s : State) : Out := doBit 6 (.reg .b) s

/-- `BIT 6,C` (0xCB 0x71): R612. -/
def execBit6C (s : State) : Out := doBit 6 (.reg .c) s

/-- `BIT 6,D` (0xCB 0x72): R612. -/
def execBit6D (s : State) : Out := doBit 6 (.reg .d) s

/-- `BIT 6,E` (0xCB 0x73): R612. -/
def execBit6E (s : State) : Out := doBit 6 (.reg .e) s

/-- `BIT 6,H` (0xCB 0x74): R612. -/
def execBit6H (s : State) : Out := doBit 6 (.reg .h) s

/-- `BIT 6,L` (0xCB 0x75): R612. -/
def execBit6L (s : State) : Out := doBit 6 (.reg .l) s

/-- `BIT 6,(HL)` (0xCB 0x76): R612. -/
def execBit6MemHl (s : State) : Out := doBit 6 .memHl s

/-- `BIT 6,A` (0xCB 0x77): R612. -/
def execBit6A (s : State) : Out := doBit 6 (.reg .a) s

/-- `BIT 7,B` (0xCB 0x78): R612. -/
def execBit7B (s : State) : Out := doBit 7 (.reg .b) s

/-- `BIT 7,C` (0xCB 0x79): R612. -/
def execBit7C (s : State) : Out := doBit 7 (.reg .c) s

/-- `BIT 7,D` (0xCB 0x7A): R612. -/
def execBit7D (s : State) : Out := doBit 7 (.reg .d) s

/-- `BIT 7,E` (0xCB 0x7B): R612. -/
def execBit7E (s : State) : Out := doBit 7 (.reg .e) s

/-- `BIT 7,H` (0xCB 0x7C): R612. -/
def execBit7H (s : State) : Out := doBit 7 (.reg .h) s

/-- `BIT 7,L` (0xCB 0x7D): R612. -/
def execBit7L (s : State) : Out := doBit 7 (.reg .l) s

/-- `BIT 7,(HL)` (0xCB 0x7E): R612. -/
def execBit7MemHl (s : State) : Out := doBit 7 .memHl s

/-- `BIT 7,A` (0xCB 0x7F): R612. -/
def execBit7A (s : State) : Out := doBit 7 (.reg .a) s

/-- `RES 0,B` (0xCB 0x80): R613. -/
def execRes0B (s : State) : Out := doRes 0 (.reg .b) s

/-- `RES 0,C` (0xCB 0x81): R613. -/
def execRes0C (s : State) : Out := doRes 0 (.reg .c) s

/-- `RES 0,D` (0xCB 0x82): R613. -/
def execRes0D (s : State) : Out := doRes 0 (.reg .d) s

/-- `RES 0,E` (0xCB 0x83): R613. -/
def execRes0E (s : State) : Out := doRes 0 (.reg .e) s

/-- `RES 0,H` (0xCB 0x84): R613. -/
def execRes0H (s : State) : Out := doRes 0 (.reg .h) s

/-- `RES 0,L` (0xCB 0x85): R613. -/
def execRes0L (s : State) : Out := doRes 0 (.reg .l) s

/-- `RES 0,(HL)` (0xCB 0x86): R613. -/
def execRes0MemHl (s : State) : Out := doRes 0 .memHl s

/-- `RES 0,A` (0xCB 0x87): R613. -/
def execRes0A (s : State) : Out := doRes 0 (.reg .a) s

/-- `RES 1,B` (0xCB 0x88): R613. -/
def execRes1B (s : State) : Out := doRes 1 (.reg .b) s

/-- `RES 1,C` (0xCB 0x89): R613. -/
def execRes1C (s : State) : Out := doRes 1 (.reg .c) s

/-- `RES 1,D` (0xCB 0x8A): R613. -/
def execRes1D (s : State) : Out := doRes 1 (.reg .d) s

/-- `RES 1,E` (0xCB 0x8B): R613. -/
def execRes1E (s : State) : Out := doRes 1 (.reg .e) s

/-- `RES 1,H` (0xCB 0x8C): R613. -/
def execRes1H (s : State) : Out := doRes 1 (.reg .h) s

/-- `RES 1,L` (0xCB 0x8D): R613. -/
def execRes1L (s : State) : Out := doRes 1 (.reg .l) s

/-- `RES 1,(HL)` (0xCB 0x8E): R613. -/
def execRes1MemHl (s : State) : Out := doRes 1 .memHl s

/-- `RES 1,A` (0xCB 0x8F): R613. -/
def execRes1A (s : State) : Out := doRes 1 (.reg .a) s

/-- `RES 2,B` (0xCB 0x90): R613. -/
def execRes2B (s : State) : Out := doRes 2 (.reg .b) s

/-- `RES 2,C` (0xCB 0x91): R613. -/
def execRes2C (s : State) : Out := doRes 2 (.reg .c) s

/-- `RES 2,D` (0xCB 0x92): R613. -/
def execRes2D (s : State) : Out := doRes 2 (.reg .d) s

/-- `RES 2,E` (0xCB 0x93): R613. -/
def execRes2E (s : State) : Out := doRes 2 (.reg .e) s

/-- `RES 2,H` (0xCB 0x94): R613. -/
def execRes2H (s : State) : Out := doRes 2 (.reg .h) s

/-- `RES 2,L` (0xCB 0x95): R613. -/
def execRes2L (s : State) : Out := doRes 2 (.reg .l) s

/-- `RES 2,(HL)` (0xCB 0x96): R613. -/
def execRes2MemHl (s : State) : Out := doRes 2 .memHl s

/-- `RES 2,A` (0xCB 0x97): R613. -/
def execRes2A (s : State) : Out := doRes 2 (.reg .a) s

/-- `RES 3,B` (0xCB 0x98): R613. -/
def execRes3B (s : State) : Out := doRes 3 (.reg .b) s

/-- `RES 3,C` (0xCB 0x99): R613. -/
def execRes3C (s : State) : Out := doRes 3 (.reg .c) s

/-- `RES 3,D` (0xCB 0x9A): R613. -/
def execRes3D (s : State) : Out := doRes 3 (.reg .d) s

/-- `RES 3,E` (0xCB 0x9B): R613. -/
def execRes3E (s : State) : Out := doRes 3 (.reg .e) s

/-- `RES 3,H` (0xCB 0x9C): R613. -/
def execRes3H (s : State) : Out := doRes 3 (.reg .h) s

/-- `RES 3,L` (0xCB 0x9D): R613. -/
def execRes3L (s : State) : Out := doRes 3 (.reg .l) s

/-- `RES 3,(HL)` (0xCB 0x9E): R613. -/
def execRes3MemHl (s : State) : Out := doRes 3 .memHl s

/-- `RES 3,A` (0xCB 0x9F): R613. -/
def execRes3A (s : State) : Out := doRes 3 (.reg .a) s

/-- `RES 4,B` (0xCB 0xA0): R613. -/
def execRes4B (s : State) : Out := doRes 4 (.reg .b) s

/-- `RES 4,C` (0xCB 0xA1): R613. -/
def execRes4C (s : State) : Out := doRes 4 (.reg .c) s

/-- `RES 4,D` (0xCB 0xA2): R613. -/
def execRes4D (s : State) : Out := doRes 4 (.reg .d) s

/-- `RES 4,E` (0xCB 0xA3): R613. -/
def execRes4E (s : State) : Out := doRes 4 (.reg .e) s

/-- `RES 4,H` (0xCB 0xA4): R613. -/
def execRes4H (s : State) : Out := doRes 4 (.reg .h) s

/-- `RES 4,L` (0xCB 0xA5): R613. -/
def execRes4L (s : State) : Out := doRes 4 (.reg .l) s

/-- `RES 4,(HL)` (0xCB 0xA6): R613. -/
def execRes4MemHl (s : State) : Out := doRes 4 .memHl s

/-- `RES 4,A` (0xCB 0xA7): R613. -/
def execRes4A (s : State) : Out := doRes 4 (.reg .a) s

/-- `RES 5,B` (0xCB 0xA8): R613. -/
def execRes5B (s : State) : Out := doRes 5 (.reg .b) s

/-- `RES 5,C` (0xCB 0xA9): R613. -/
def execRes5C (s : State) : Out := doRes 5 (.reg .c) s

/-- `RES 5,D` (0xCB 0xAA): R613. -/
def execRes5D (s : State) : Out := doRes 5 (.reg .d) s

/-- `RES 5,E` (0xCB 0xAB): R613. -/
def execRes5E (s : State) : Out := doRes 5 (.reg .e) s

/-- `RES 5,H` (0xCB 0xAC): R613. -/
def execRes5H (s : State) : Out := doRes 5 (.reg .h) s

/-- `RES 5,L` (0xCB 0xAD): R613. -/
def execRes5L (s : State) : Out := doRes 5 (.reg .l) s

/-- `RES 5,(HL)` (0xCB 0xAE): R613. -/
def execRes5MemHl (s : State) : Out := doRes 5 .memHl s

/-- `RES 5,A` (0xCB 0xAF): R613. -/
def execRes5A (s : State) : Out := doRes 5 (.reg .a) s

/-- `RES 6,B` (0xCB 0xB0): R613. -/
def execRes6B (s : State) : Out := doRes 6 (.reg .b) s

/-- `RES 6,C` (0xCB 0xB1): R613. -/
def execRes6C (s : State) : Out := doRes 6 (.reg .c) s

/-- `RES 6,D` (0xCB 0xB2): R613. -/
def execRes6D (s : State) : Out := doRes 6 (.reg .d) s

/-- `RES 6,E` (0xCB 0xB3): R613. -/
def execRes6E (s : State) : Out := doRes 6 (.reg .e) s

/-- `RES 6,H` (0xCB 0xB4): R613. -/
def execRes6H (s : State) : Out := doRes 6 (.reg .h) s

/-- `RES 6,L` (0xCB 0xB5): R613. -/
def execRes6L (s : State) : Out := doRes 6 (.reg .l) s

/-- `RES 6,(HL)` (0xCB 0xB6): R613. -/
def execRes6MemHl (s : State) : Out := doRes 6 .memHl s

/-- `RES 6,A` (0xCB 0xB7): R613. -/
def execRes6A (s : State) : Out := doRes 6 (.reg .a) s

/-- `RES 7,B` (0xCB 0xB8): R613. -/
def execRes7B (s : State) : Out := doRes 7 (.reg .b) s

/-- `RES 7,C` (0xCB 0xB9): R613. -/
def execRes7C (s : State) : Out := doRes 7 (.reg .c) s

/-- `RES 7,D` (0xCB 0xBA): R613. -/
def execRes7D (s : State) : Out := doRes 7 (.reg .d) s

/-- `RES 7,E` (0xCB 0xBB): R613. -/
def execRes7E (s : State) : Out := doRes 7 (.reg .e) s

/-- `RES 7,H` (0xCB 0xBC): R613. -/
def execRes7H (s : State) : Out := doRes 7 (.reg .h) s

/-- `RES 7,L` (0xCB 0xBD): R613. -/
def execRes7L (s : State) : Out := doRes 7 (.reg .l) s

/-- `RES 7,(HL)` (0xCB 0xBE): R613. -/
def execRes7MemHl (s : State) : Out := doRes 7 .memHl s

/-- `RES 7,A` (0xCB 0xBF): R613. -/
def execRes7A (s : State) : Out := doRes 7 (.reg .a) s

/-- `SET 0,B` (0xCB 0xC0): R614. -/
def execSet0B (s : State) : Out := doSet 0 (.reg .b) s

/-- `SET 0,C` (0xCB 0xC1): R614. -/
def execSet0C (s : State) : Out := doSet 0 (.reg .c) s

/-- `SET 0,D` (0xCB 0xC2): R614. -/
def execSet0D (s : State) : Out := doSet 0 (.reg .d) s

/-- `SET 0,E` (0xCB 0xC3): R614. -/
def execSet0E (s : State) : Out := doSet 0 (.reg .e) s

/-- `SET 0,H` (0xCB 0xC4): R614. -/
def execSet0H (s : State) : Out := doSet 0 (.reg .h) s

/-- `SET 0,L` (0xCB 0xC5): R614. -/
def execSet0L (s : State) : Out := doSet 0 (.reg .l) s

/-- `SET 0,(HL)` (0xCB 0xC6): R614. -/
def execSet0MemHl (s : State) : Out := doSet 0 .memHl s

/-- `SET 0,A` (0xCB 0xC7): R614. -/
def execSet0A (s : State) : Out := doSet 0 (.reg .a) s

/-- `SET 1,B` (0xCB 0xC8): R614. -/
def execSet1B (s : State) : Out := doSet 1 (.reg .b) s

/-- `SET 1,C` (0xCB 0xC9): R614. -/
def execSet1C (s : State) : Out := doSet 1 (.reg .c) s

/-- `SET 1,D` (0xCB 0xCA): R614. -/
def execSet1D (s : State) : Out := doSet 1 (.reg .d) s

/-- `SET 1,E` (0xCB 0xCB): R614. -/
def execSet1E (s : State) : Out := doSet 1 (.reg .e) s

/-- `SET 1,H` (0xCB 0xCC): R614. -/
def execSet1H (s : State) : Out := doSet 1 (.reg .h) s

/-- `SET 1,L` (0xCB 0xCD): R614. -/
def execSet1L (s : State) : Out := doSet 1 (.reg .l) s

/-- `SET 1,(HL)` (0xCB 0xCE): R614. -/
def execSet1MemHl (s : State) : Out := doSet 1 .memHl s

/-- `SET 1,A` (0xCB 0xCF): R614. -/
def execSet1A (s : State) : Out := doSet 1 (.reg .a) s

/-- `SET 2,B` (0xCB 0xD0): R614. -/
def execSet2B (s : State) : Out := doSet 2 (.reg .b) s

/-- `SET 2,C` (0xCB 0xD1): R614. -/
def execSet2C (s : State) : Out := doSet 2 (.reg .c) s

/-- `SET 2,D` (0xCB 0xD2): R614. -/
def execSet2D (s : State) : Out := doSet 2 (.reg .d) s

/-- `SET 2,E` (0xCB 0xD3): R614. -/
def execSet2E (s : State) : Out := doSet 2 (.reg .e) s

/-- `SET 2,H` (0xCB 0xD4): R614. -/
def execSet2H (s : State) : Out := doSet 2 (.reg .h) s

/-- `SET 2,L` (0xCB 0xD5): R614. -/
def execSet2L (s : State) : Out := doSet 2 (.reg .l) s

/-- `SET 2,(HL)` (0xCB 0xD6): R614. -/
def execSet2MemHl (s : State) : Out := doSet 2 .memHl s

/-- `SET 2,A` (0xCB 0xD7): R614. -/
def execSet2A (s : State) : Out := doSet 2 (.reg .a) s

/-- `SET 3,B` (0xCB 0xD8): R614. -/
def execSet3B (s : State) : Out := doSet 3 (.reg .b) s

/-- `SET 3,C` (0xCB 0xD9): R614. -/
def execSet3C (s : State) : Out := doSet 3 (.reg .c) s

/-- `SET 3,D` (0xCB 0xDA): R614. -/
def execSet3D (s : State) : Out := doSet 3 (.reg .d) s

/-- `SET 3,E` (0xCB 0xDB): R614. -/
def execSet3E (s : State) : Out := doSet 3 (.reg .e) s

/-- `SET 3,H` (0xCB 0xDC): R614. -/
def execSet3H (s : State) : Out := doSet 3 (.reg .h) s

/-- `SET 3,L` (0xCB 0xDD): R614. -/
def execSet3L (s : State) : Out := doSet 3 (.reg .l) s

/-- `SET 3,(HL)` (0xCB 0xDE): R614. -/
def execSet3MemHl (s : State) : Out := doSet 3 .memHl s

/-- `SET 3,A` (0xCB 0xDF): R614. -/
def execSet3A (s : State) : Out := doSet 3 (.reg .a) s

/-- `SET 4,B` (0xCB 0xE0): R614. -/
def execSet4B (s : State) : Out := doSet 4 (.reg .b) s

/-- `SET 4,C` (0xCB 0xE1): R614. -/
def execSet4C (s : State) : Out := doSet 4 (.reg .c) s

/-- `SET 4,D` (0xCB 0xE2): R614. -/
def execSet4D (s : State) : Out := doSet 4 (.reg .d) s

/-- `SET 4,E` (0xCB 0xE3): R614. -/
def execSet4E (s : State) : Out := doSet 4 (.reg .e) s

/-- `SET 4,H` (0xCB 0xE4): R614. -/
def execSet4H (s : State) : Out := doSet 4 (.reg .h) s

/-- `SET 4,L` (0xCB 0xE5): R614. -/
def execSet4L (s : State) : Out := doSet 4 (.reg .l) s

/-- `SET 4,(HL)` (0xCB 0xE6): R614. -/
def execSet4MemHl (s : State) : Out := doSet 4 .memHl s

/-- `SET 4,A` (0xCB 0xE7): R614. -/
def execSet4A (s : State) : Out := doSet 4 (.reg .a) s

/-- `SET 5,B` (0xCB 0xE8): R614. -/
def execSet5B (s : State) : Out := doSet 5 (.reg .b) s

/-- `SET 5,C` (0xCB 0xE9): R614. -/
def execSet5C (s : State) : Out := doSet 5 (.reg .c) s

/-- `SET 5,D` (0xCB 0xEA): R614. -/
def execSet5D (s : State) : Out := doSet 5 (.reg .d) s

/-- `SET 5,E` (0xCB 0xEB): R614. -/
def execSet5E (s : State) : Out := doSet 5 (.reg .e) s

/-- `SET 5,H` (0xCB 0xEC): R614. -/
def execSet5H (s : State) : Out := doSet 5 (.reg .h) s

/-- `SET 5,L` (0xCB 0xED): R614. -/
def execSet5L (s : State) : Out := doSet 5 (.reg .l) s

/-- `SET 5,(HL)` (0xCB 0xEE): R614. -/
def execSet5MemHl (s : State) : Out := doSet 5 .memHl s

/-- `SET 5,A` (0xCB 0xEF): R614. -/
def execSet5A (s : State) : Out := doSet 5 (.reg .a) s

/-- `SET 6,B` (0xCB 0xF0): R614. -/
def execSet6B (s : State) : Out := doSet 6 (.reg .b) s

/-- `SET 6,C` (0xCB 0xF1): R614. -/
def execSet6C (s : State) : Out := doSet 6 (.reg .c) s

/-- `SET 6,D` (0xCB 0xF2): R614. -/
def execSet6D (s : State) : Out := doSet 6 (.reg .d) s

/-- `SET 6,E` (0xCB 0xF3): R614. -/
def execSet6E (s : State) : Out := doSet 6 (.reg .e) s

/-- `SET 6,H` (0xCB 0xF4): R614. -/
def execSet6H (s : State) : Out := doSet 6 (.reg .h) s

/-- `SET 6,L` (0xCB 0xF5): R614. -/
def execSet6L (s : State) : Out := doSet 6 (.reg .l) s

/-- `SET 6,(HL)` (0xCB 0xF6): R614. -/
def execSet6MemHl (s : State) : Out := doSet 6 .memHl s

/-- `SET 6,A` (0xCB 0xF7): R614. -/
def execSet6A (s : State) : Out := doSet 6 (.reg .a) s

/-- `SET 7,B` (0xCB 0xF8): R614. -/
def execSet7B (s : State) : Out := doSet 7 (.reg .b) s

/-- `SET 7,C` (0xCB 0xF9): R614. -/
def execSet7C (s : State) : Out := doSet 7 (.reg .c) s

/-- `SET 7,D` (0xCB 0xFA): R614. -/
def execSet7D (s : State) : Out := doSet 7 (.reg .d) s

/-- `SET 7,E` (0xCB 0xFB): R614. -/
def execSet7E (s : State) : Out := doSet 7 (.reg .e) s

/-- `SET 7,H` (0xCB 0xFC): R614. -/
def execSet7H (s : State) : Out := doSet 7 (.reg .h) s

/-- `SET 7,L` (0xCB 0xFD): R614. -/
def execSet7L (s : State) : Out := doSet 7 (.reg .l) s

/-- `SET 7,(HL)` (0xCB 0xFE): R614. -/
def execSet7MemHl (s : State) : Out := doSet 7 .memHl s

/-- `SET 7,A` (0xCB 0xFF): R614. -/
def execSet7A (s : State) : Out := doSet 7 (.reg .a) s

end Sys2Proof.Machine
end

