-- ==== Sys2Proof/Machine/System.lean ====
section
/-! DEFINITION. The meanings of 45_system.md R550 to R558: system and miscellaneous instructions (17 rows): shared operations first, then one meaning per row. -/

namespace Sys2Proof.Machine

/-- `NOP` (R550). -/
def doNop : State → Out :=
  complete 1 4 id

/-- `HALT`, whatever IME is (R551). -/
def doHalt : State → Out :=
  complete 1 4 fun s => { s with halted := true }

/-- `DI` and `EI`, at once (R555, R556). -/
def doSetIme (on : Bool) : State → Out :=
  complete 1 4 fun s => { s with ime := on }

/-- `STOP` by the parameter `STOP_MODE`: the fault, or a two-byte no-operation (R554, log entry 2). -/
def doStop (s : State) : Out :=
  match s.params.stopMode with
  | .fault => raiseIllegal 0x10 s
  | .nop2 => complete 2 4 id s

/-- `NOP` (0x00): R550. -/
def execNop (s : State) : Out := doNop s

/-- `STOP` (0x10): R554. -/
def execStop (_n : Byte) (s : State) : Out := doStop s

/-- `HALT` (0x76): R551. -/
def execHalt (s : State) : Out := doHalt s

/-- `PREFIX CB` (0xCB): R558. -/
def execPrefixCb (cb : Byte) (s : State) : Out := doSecondary cb s

/-- `ILLEGAL_D3` (0xD3): R557. -/
def execIllegalD3 (s : State) : Out := raiseIllegal 0xD3 s

/-- `ILLEGAL_DB` (0xDB): R557. -/
def execIllegalDB (s : State) : Out := raiseIllegal 0xDB s

/-- `ILLEGAL_DD` (0xDD): R557. -/
def execIllegalDD (s : State) : Out := raiseIllegal 0xDD s

/-- `ILLEGAL_E3` (0xE3): R557. -/
def execIllegalE3 (s : State) : Out := raiseIllegal 0xE3 s

/-- `ILLEGAL_E4` (0xE4): R557. -/
def execIllegalE4 (s : State) : Out := raiseIllegal 0xE4 s

/-- `ILLEGAL_EB` (0xEB): R557. -/
def execIllegalEB (s : State) : Out := raiseIllegal 0xEB s

/-- `ILLEGAL_EC` (0xEC): R557. -/
def execIllegalEC (s : State) : Out := raiseIllegal 0xEC s

/-- `ILLEGAL_ED` (0xED): R557. -/
def execIllegalED (s : State) : Out := raiseIllegal 0xED s

/-- `DI` (0xF3): R555. -/
def execDi (s : State) : Out := doSetIme false s

/-- `ILLEGAL_F4` (0xF4): R557. -/
def execIllegalF4 (s : State) : Out := raiseIllegal 0xF4 s

/-- `EI` (0xFB): R556. -/
def execEi (s : State) : Out := doSetIme true s

/-- `ILLEGAL_FC` (0xFC): R557. -/
def execIllegalFC (s : State) : Out := raiseIllegal 0xFC s

/-- `ILLEGAL_FD` (0xFD): R557. -/
def execIllegalFD (s : State) : Out := raiseIllegal 0xFD s

end Sys2Proof.Machine
end

