-- ==== Sys2Proof/Machine/Driver.lean ====
section
/-! DEFINITION. What surrounds an instruction: fetching it (30_encoding.md R212, R213), the halted tick and the wake (45_system.md R552, R553),
the display's advance after a step (60_exceptions.md R750), the host's operations between steps (R756), and the placing of a table word. -/

namespace Sys2Proof.Machine

/-- The instruction at the program counter (R213, R215). Reads change nothing (R103), so bytes past its length may be read (log entry 7). -/
def State.fetchInstr (s : State) : Instr :=
  (primary (s.readByte s.regs.pc)).instr (s.readByte (s.regs.pc + 1)) (s.readByte (s.regs.pc + 2))

/-- `(IE & IF & 0x1F) != 0`: an enabled interrupt is pending (R553, R711). -/
def State.wakePending (s : State) : Bool := s.ie.setWidth 5 &&& s.iflag ≠ 0

/-- Whether this step is a halted tick (R212, R552, R553). -/
def State.idles (s : State) : Bool := s.halted && !s.wakePending

/-- The halted tick: 4 cycles, nothing else (R552). -/
def State.haltedTick (s : State) : State := s.charge 4

/-- The core no longer halted (R553). -/
def State.wake (s : State) : State := { s with halted := false }

/-- A faulting step leaves `halted` as it was before the step, the wake in it undone: "the state is the state before the step except that
`pc = pc0 + 1`" and `fault`, and no "`halted`" changes (60_exceptions.md R702, D5; log entry 21). -/
def undoWake (before after : State) : State :=
  if after.fault.isSome then { after with halted := before.halted } else after

/-- After a core step from `before` to `after`: the display advances by exactly the step's cost, and the driver's total with it (R750).
A faulting step costs nothing (R702). -/
def settle (before after : State) : State :=
  let cost := after.cycles - before.cycles
  let t := State.advance cost after
  { t with frameTotal := t.frameTotal + cost }

/-- The cartridge kind an image's header byte selects (R117). -/
def cartKindOf (size : Nat) (cells : Memory) : CartKind :=
  let code := cells.read 0x0147
  if 0x0147 < size ∧ (code = 0x01 ∨ code = 0x02 ∨ code = 0x03) then .mbc1 else .direct

/-- Installs an image held sparsely and resets BankingState (R143, R807). -/
def State.installImage (s : State) (size : Nat) (cells : Memory) : State :=
  { s with
    cart := { size := size, cells := cells.filter fun cell => cell.1 < size, kind := cartKindOf size cells }
    bank := Banking.reset }

/-- Whether a save is accepted: only one of exactly `ERAM_SIZE` bytes (R144, R706). -/
def saveAccepted (save : List Byte) : Bool := save.length = Config.eramSize

/-- External RAM from an accepted save; any other save leaves it (R144, R808). -/
def State.applySave (s : State) (save : List Byte) : State :=
  if saveAccepted save then { s with mem := s.mem.writeBytes 0xA000 save } else s

/-- Whether the machine runs: a `runFrame` was called, or a step was taken without one (R756, log entry 12). -/
def State.running (s : State) : Bool := s.launch = .running || s.cycles ≠ 0 || s.fault.isSome

/-- The host's first `runFrame` (R756). -/
def State.launched (s : State) : State := { s with launch := .running }

/-- Host: `loadGame(data)` with an optional save, before the first `runFrame` (R143, R144, R756). -/
def loadGame (data : List Byte) (save : Option (List Byte)) (s : State) : Out :=
  if s.running then .refused .loadWhileRunning
  else
    let t := { s.installImage data.length (Memory.writeBytes [] 0 data) with launch := .loaded }
    .next (match save with
      | none => t
      | some bytes => t.applySave bytes)

/-- Host: load save, after `loadGame` and before the first `runFrame` (R144, R756). -/
def loadSave (save : List Byte) (s : State) : Out :=
  if s.running then .refused .loadWhileRunning
  else if s.launch = .loaded then .next (s.applySave save)
  else .refused .saveBeforeLoad

/-- Host: store save, the bytes of external RAM (R145). -/
def State.storeSave (s : State) : List Byte :=
  (List.range Config.eramSize).map fun i => s.mem.read (0xA000 + i)

/-- Host: set buttons (R130, R756). -/
def State.setButtons (s : State) (v : Byte) : State := { s with p1 := v }

/-- Host: set or clear the stop flag (R753, R756). -/
def State.setStop (s : State) (on : Bool) : State := { s with stop := on }

/-- Host: read `cycles` (R715, R756). -/
def State.readCycles (s : State) : Nat := s.cycles

/-- What the host may do between any two steps of a running machine: the rows of the table of R756 that say so (log entry 20). -/
inductive HostMove where
  /-- Store save (R145). -/
  | storeSave
  /-- Set buttons (R130). -/
  | setButtons (v : Byte)
  /-- Set or clear the stop flag (R753). -/
  | setStop (on : Bool)
  /-- Read `cycles` (R715). -/
  | readCycles
deriving DecidableEq, Repr

/-- What the host gets back from a move (R756). -/
inductive HostReply where
  | nothing
  | save (bytes : List Byte)
  | cycles (total : Nat)
deriving DecidableEq, Repr

/-- A move's machine effect (R756). -/
def State.moved (s : State) : HostMove → State
  | .storeSave => s
  | .setButtons v => s.setButtons v
  | .setStop on => s.setStop on
  | .readCycles => s

/-- What a move gives back to the host (R756). -/
def State.reply (s : State) : HostMove → HostReply
  | .storeSave => .save s.storeSave
  | .setButtons _ => .nothing
  | .setStop _ => .nothing
  | .readCycles => .cycles s.readCycles

/-- The state after the moves the host makes between two steps, in their order (R756). -/
def State.hosted (s : State) : List HostMove → State
  | [] => s
  | move :: moves => (s.moved move).hosted moves

/-- What those moves give back, in their order (R756). -/
def State.replies (s : State) : List HostMove → List HostReply
  | [] => []
  | move :: moves => s.reply move :: (s.moved move).replies moves

/-- The host's moves while the driver runs: the first list those before the first step, the next those between the first step and the second,
and so on; none past the end (R756, log entry 20). -/
abbrev Schedule := List (List HostMove)

/-- The moves before the next step. -/
def Schedule.now (schedule : Schedule) : List HostMove := schedule.headD []

/-- The moves after the next step. -/
def Schedule.later (schedule : Schedule) : Schedule := schedule.tail

/-- The cartridge, or an empty 32 KiB Direct image where there is none. -/
def Cartridge.orBlank (cart : Cartridge) : Cartridge :=
  if cart.size = 0 then { size := 0x8000, cells := [], kind := .direct } else cart

/-- Puts a byte where a fetch from `a` reads it (log entry 10): into the image under the ROM window, else into the storage of the address. -/
def State.placeByte (s : State) (a : Word) (v : Byte) : State :=
  let n := a.toNat
  match regionOf n with
  | .romLow | .romHigh =>
    let cart := s.cart.orBlank
    { s with cart := { cart with cells := cart.cells.write (romOffset cart.kind s.bank n % cart.size) v } }
  | .eram => { s.store n v with bank := { s.bank with ramEnable := true } }
  | _ => s.writeByte a v

/-- The state ready to fetch: neither stopped nor faulted nor halted. -/
def State.readied (s : State) : State := { s with halted := false, fault := none, stop := false }

/-- Places three bytes at the program counter of a readied state. -/
def State.placeInstr (s : State) (b0 b1 b2 : Byte) : State :=
  let pc := s.regs.pc
  ((s.readied.placeByte pc b0).placeByte (pc + 1) b1).placeByte (pc + 2) b2

end Sys2Proof.Machine
end

