-- ==== Sys2Proof/Machine/Step.lean ====
section
/-! DEFINITION. One step: one iteration of the FrameDriver's loop (60_exceptions.md R750), which is the core's `step()` (30_encoding.md R212)
followed by exactly that step's `advance`. -/

namespace Sys2Proof.Machine

/-- The stop flag is tested before the step (R753); a faulted machine has no step (R703); a halted core ticks (R552) or wakes and goes on in the
same step (R553); else the instruction at the program counter is executed and the display advances by its cost. A step that faults keeps no wake
(R702). -/
def step (s : State) : Host.Outcome State Fault Refusal :=
  if s.stop then .refused .stopped
  else
    match s.fault with
    | some f => .fault f
    | none =>
      if s.idles then .next (settle s s.haltedTick)
      else
        match exec s.wake.fetchInstr s.wake with
        | .next t => .next (settle s (undoWake s t))
        | .fault f => .fault f
        | .refused r => .refused r

/-- The state with a table word where `step` fetches its next instruction (log entries 10 and 11). -/
def State.withFetchWord (s : State) (nbits w : Nat) : State :=
  let bytes := tableBytes nbits w
  s.placeInstr bytes.1 bytes.2.1 bytes.2.2

end Sys2Proof.Machine
end

