-- ==== Sys2Proof/Machine/Frame.lean ====
section
/-! DEFINITION. The FrameDriver's `runFrame()` (60_exceptions.md R750 to R755) and the end of a run (R759). -/

namespace Sys2Proof.Machine

/-- What `runFrame` returns to the host (R750, R752, R753, R755). -/
inductive FrameResult where
  | frame (framebuffer : List (List Shade)) (total : Nat)
  | faulted (f : Fault) (total : Nat)
  | stopped (total : Nat)
deriving DecidableEq, Repr

/-- The next frame boundary (R750, R751). -/
def frameTarget (total : Nat) : Nat := (total / Config.frameCycles + 1) * Config.frameCycles

/-- How a call of `runFrame` came out: its result, what the host's moves in it gave back, and the state at its return (R750, R756). -/
structure FrameRun where
  result : FrameResult
  replies : List HostReply
  state : State
deriving DecidableEq, Repr

/-- The call with earlier replies before its own. -/
def FrameRun.heard (replies : List HostReply) (run : FrameRun) : FrameRun := { run with replies := replies ++ run.replies }

/-- The loop of `runFrame` (R750). Before each step the host makes the moves the schedule has there (R756); then the stop flag is tested, so a flag
set between two steps ends the loop there (R753). A fault ends it at once, with no move between (R752). `none` only where the fuel runs out before
the loop ends (log entry 17). -/
def frameLoop (target : Nat) : Nat → Schedule → State → Option FrameRun
  | 0, _, _ => none
  | fuel + 1, schedule, s =>
    if s.frameTotal < target then
      let t := s.hosted schedule.now
      let heard := s.replies schedule.now
      match step t with
      | .next u =>
        match u.fault with
        | some f => some ⟨.faulted f u.frameTotal, heard, u⟩
        | none => (frameLoop target fuel schedule.later u).map (FrameRun.heard heard)
      | .fault f => some ⟨.faulted f t.frameTotal, heard, t⟩
      | .refused _ => some ⟨.stopped t.frameTotal, heard, t⟩
    else some ⟨.frame s.framebuffer s.frameTotal, [], s⟩

/-- `runFrame()` (R750) under the host's moves between its steps (R756). The host's first call is recorded (log entry 12). Every step but a faulting
one costs at least 4 cycles (R818), so the fuel is more than the loop can use. -/
def runFrame (schedule : Schedule) (s : State) : Option FrameRun :=
  frameLoop (frameTarget s.frameTotal) (Config.frameCycles + 2) schedule s.launched

/-- `k` steps, the host's moves before each, ending at the first that answers no next state (R750, R756). -/
def hostedRun : Nat → Schedule → State → Out
  | 0, _, s => .next s
  | k + 1, schedule, s =>
    match step (s.hosted schedule.now) with
    | .next t => hostedRun k schedule.later t
    | .fault f => .fault f
    | .refused r => .refused r

/-- How a run of `runFrame` calls came out (R759). -/
inductive RunResult where
  /-- Every call returned `Frame`: the run's normal end. -/
  | ended
  /-- A call returned `Faulted`: the run has faulted, which is never a normal end. -/
  | faulted (f : Fault) (total : Nat)
  /-- A call returned `Stopped`, which is not an end: the run may go on (R753). -/
  | stopped (total : Nat)
deriving DecidableEq, Repr

/-- Calls of `runFrame`, one for each schedule of the host's moves, up to the first that does not return `Frame`, with the state at the last return
(R759). -/
def runFrames : List Schedule → State → Option (RunResult × State)
  | [], s => some (.ended, s)
  | schedule :: schedules, s =>
    match runFrame schedule s with
    | some ⟨.frame _ _, _, t⟩ => runFrames schedules t
    | some ⟨.faulted f total, _, t⟩ => some (.faulted f total, t)
    | some ⟨.stopped total, _, t⟩ => some (.stopped total, t)
    | none => none

/-- The observed state of a run that ends after k frames, k the number of schedules: the state at the return of the k-th of k calls that all returned
`Frame`; none where the run does not end so (R759). -/
def observedAt (schedules : List Schedule) (s : State) : Option State :=
  match runFrames schedules s with
  | some (.ended, t) => some t
  | _ => none

end Sys2Proof.Machine
end

