-- ==== Sys2Proof/Safety.lean ====
section
/-! DEFINITION. What claims speak of: a safe run, the invariant of the machine, how an instruction retires, and the addresses an instruction
stores to. -/

namespace Sys2Proof.Machine

/-- The step goes on: a next state that holds no fault (60_exceptions.md R703). -/
def Safe (o : Out) : Prop := ∃ t, o = .next t ∧ t.fault = none

/-- An address whose byte `State.mem` holds: RAM, or a plain byte of the I/O block (10_state.md R41, R49). -/
def storageAddress (n : Nat) : Bool :=
  ramAddress n || (0xFF00 ≤ n && n < 0xFF80 && ioRegOf n == .plain)

/-- The memory is in canonical form and lists storage bytes only. -/
def State.MemOk (s : State) : Prop := s.mem.wf = true ∧ ∀ cell ∈ s.mem, storageAddress cell.1 = true

/-- The framebuffer is 144 rows of 160 shades (10_state.md R47). -/
def State.FrameOk (s : State) : Prop :=
  s.framebuffer.length = 144 ∧ ∀ row ∈ s.framebuffer, row.length = 160

/-- The display is where the cycle total says: line and dot count the cycles modulo a frame (60_exceptions.md R726). -/
def State.InPhase (s : State) : Prop := 456 * s.ly + s.dot = s.cycles % 70224

/-- The invariant of the machine, which every step keeps. -/
structure State.Inv (s : State) : Prop where
  /-- The low nibble of F is zero (10_state.md R32). -/
  flags : s.regs.f &&& 0x0F = 0
  /-- The memory is canonical. -/
  mem : s.MemOk
  /-- romBank is never 0 (10_state.md R43, 20_memory.md R109). -/
  bank : s.bank.romBank ≠ 0
  /-- The scanline index is below 154 (10_state.md R45). -/
  line : s.ly < 154
  /-- The intra-scanline counter is below 456 (10_state.md R45). -/
  dot : s.dot < 456
  /-- The framebuffer keeps its shape. -/
  frame : s.FrameOk
  /-- The driver's total is the cycle total (60_exceptions.md R750). -/
  total : s.frameTotal = s.cycles
  /-- The display is in phase with the cycle total. -/
  phase : s.InPhase

/-- An instruction that retires: the pc past its `len` bytes, its `cost` counted, the other registers changed by `f`. -/
def State.retires (s : State) (len cost : Nat) (f : Regs → Regs) : State :=
  { s with
    regs := { f s.regs with pc := s.regs.pc + BitVec.ofNat 16 len }
    cycles := s.cycles + cost }

/-- A control transfer that retires: the pc at `target`. -/
def State.jumps (s : State) (target : Word) (cost : Nat) (f : Regs → Regs) : State :=
  { s with
    regs := { f s.regs with pc := target }
    cycles := s.cycles + cost }

/-- Two bytes pushed: the high byte at SP − 1 first, then the low byte at SP − 2 (40_load.md R322). -/
def State.pushed (s : State) (v : Word) : State :=
  (s.writeByte (s.regs.sp - 1) (v.extractLsb' 8 8)).writeByte (s.regs.sp - 2) (v.extractLsb' 0 8)

/-- An opcode byte from its fields x, y, z (30_encoding.md R202). -/
def opcodeXYZ (x : BitVec 2) (y z : BitVec 3) : Byte := x ++ (y ++ z)

/-- An opcode byte from its fields x, p and its low four bits (30_encoding.md R202). -/
def opcodeXP (x p : BitVec 2) (low : BitVec 4) : Byte := x ++ (p ++ low)

/-- The bytes of an ALU form, `y` selecting the operation (41_alu8.md R400). -/
def aluBytes (y : BitVec 3) : AluSrc → List Byte
  | .reg r => [opcodeXYZ 2 y r.code]
  | .memHl => [opcodeXYZ 2 y 6]
  | .imm n => [opcodeXYZ 3 y 6, n]

/-- The pseudocode of DAA line by line (41_alu8.md R413): the adjusted A and the carry, from A and the flags N, H, C. -/
def daaSteps (a : Nat) (n h c : Bool) : Nat × Bool :=
  if n then
    let a1 := if c then (a + 256 - 0x60) % 256 else a
    (if h then (a1 + 256 - 0x06) % 256 else a1, c)
  else
    let r := if c || decide (a > 0x99) then ((a + 0x60) % 256, true) else (a, c)
    (if h || decide (r.1 % 16 > 0x09) then (r.1 + 0x06) % 256 else r.1, r.2)

/-- What a row's letter says of a flag before and after (00_scope.md R12). -/
def flagHolds (rule : FlagRule) (before after : Bool) : Prop :=
  match rule with
  | .keep => after = before
  | .zero => after = false
  | .one => after = true
  | .result => True

/-- The two addresses a push stores to, in order (40_load.md R322). -/
def pushAddresses (g : Regs) : List Word := [g.sp - 1, g.sp - 2]

/-- The storage byte an address names; the echo names the byte it mirrors (20_memory.md R121). -/
def storageOf (a : Word) : Nat := if regionOf a.toNat = .echo then a.toNat - 0x2000 else a.toNat

/-- Whether a write to `a` may change what a read of `b` answers: the same storage; a control write and a byte of the ROM window or external RAM
(20_memory.md R108 to R113); LYC and STAT, whose bit 2 compares with LYC (R128). -/
def mayAffect (a b : Word) : Prop :=
  storageOf a = storageOf b ∨ (a.toNat < 0x8000 ∧ (b.toNat < 0x8000 ∨ regionOf b.toNat = .eram)) ∨ (a = 0xFF45 ∧ b = 0xFF41)

/-- The addresses an instruction stores to, in order, in the state it executes in; every other instruction stores nothing. -/
def storesOf (i : Instr) (s : State) : List Word :=
  match i with
  | .nop => []
  | .ldBcN16 _ => []
  | .ldMemBcA => [s.regs.bc]
  | .incBc => []
  | .incB => []
  | .decB => []
  | .ldBN8 _ => []
  | .rlca => []
  | .ldMemN16Sp nn => [nn, nn + 1]
  | .addHlBc => []
  | .ldAMemBc => []
  | .decBc => []
  | .incC => []
  | .decC => []
  | .ldCN8 _ => []
  | .rrca => []
  | .stop _ => []
  | .ldDeN16 _ => []
  | .ldMemDeA => [s.regs.de]
  | .incDe => []
  | .incD => []
  | .decD => []
  | .ldDN8 _ => []
  | .rla => []
  | .jrE8 _ => []
  | .addHlDe => []
  | .ldAMemDe => []
  | .decDe => []
  | .incE => []
  | .decE => []
  | .ldEN8 _ => []
  | .rra => []
  | .jrNzE8 _ => []
  | .ldHlN16 _ => []
  | .ldMemHlIncA => [s.regs.hl]
  | .incHl => []
  | .incH => []
  | .decH => []
  | .ldHN8 _ => []
  | .daa => []
  | .jrZE8 _ => []
  | .addHlHl => []
  | .ldAMemHlInc => []
  | .decHl => []
  | .incL => []
  | .decL => []
  | .ldLN8 _ => []
  | .cpl => []
  | .jrNcE8 _ => []
  | .ldSpN16 _ => []
  | .ldMemHlDecA => [s.regs.hl]
  | .incSp => []
  | .incMemHl => [s.regs.hl]
  | .decMemHl => [s.regs.hl]
  | .ldMemHlN8 _ => [s.regs.hl]
  | .scf => []
  | .jrCE8 _ => []
  | .addHlSp => []
  | .ldAMemHlDec => []
  | .decSp => []
  | .incA => []
  | .decA => []
  | .ldAN8 _ => []
  | .ccf => []
  | .ldBB => []
  | .ldBC => []
  | .ldBD => []
  | .ldBE => []
  | .ldBH => []
  | .ldBL => []
  | .ldBMemHl => []
  | .ldBA => []
  | .ldCB => []
  | .ldCC => []
  | .ldCD => []
  | .ldCE => []
  | .ldCH => []
  | .ldCL => []
  | .ldCMemHl => []
  | .ldCA => []
  | .ldDB => []
  | .ldDC => []
  | .ldDD => []
  | .ldDE => []
  | .ldDH => []
  | .ldDL => []
  | .ldDMemHl => []
  | .ldDA => []
  | .ldEB => []
  | .ldEC => []
  | .ldED => []
  | .ldEE => []
  | .ldEH => []
  | .ldEL => []
  | .ldEMemHl => []
  | .ldEA => []
  | .ldHB => []
  | .ldHC => []
  | .ldHD => []
  | .ldHE => []
  | .ldHH => []
  | .ldHL => []
  | .ldHMemHl => []
  | .ldHA => []
  | .ldLB => []
  | .ldLC => []
  | .ldLD => []
  | .ldLE => []
  | .ldLH => []
  | .ldLL => []
  | .ldLMemHl => []
  | .ldLA => []
  | .ldMemHlB => [s.regs.hl]
  | .ldMemHlC => [s.regs.hl]
  | .ldMemHlD => [s.regs.hl]
  | .ldMemHlE => [s.regs.hl]
  | .ldMemHlH => [s.regs.hl]
  | .ldMemHlL => [s.regs.hl]
  | .halt => []
  | .ldMemHlA => [s.regs.hl]
  | .ldAB => []
  | .ldAC => []
  | .ldAD => []
  | .ldAE => []
  | .ldAH => []
  | .ldAL => []
  | .ldAMemHl => []
  | .ldAA => []
  | .addAB => []
  | .addAC => []
  | .addAD => []
  | .addAE => []
  | .addAH => []
  | .addAL => []
  | .addAMemHl => []
  | .addAA => []
  | .adcAB => []
  | .adcAC => []
  | .adcAD => []
  | .adcAE => []
  | .adcAH => []
  | .adcAL => []
  | .adcAMemHl => []
  | .adcAA => []
  | .subB => []
  | .subC => []
  | .subD => []
  | .subE => []
  | .subH => []
  | .subL => []
  | .subMemHl => []
  | .subA => []
  | .sbcAB => []
  | .sbcAC => []
  | .sbcAD => []
  | .sbcAE => []
  | .sbcAH => []
  | .sbcAL => []
  | .sbcAMemHl => []
  | .sbcAA => []
  | .andB => []
  | .andC => []
  | .andD => []
  | .andE => []
  | .andH => []
  | .andL => []
  | .andMemHl => []
  | .andA => []
  | .xorB => []
  | .xorC => []
  | .xorD => []
  | .xorE => []
  | .xorH => []
  | .xorL => []
  | .xorMemHl => []
  | .xorA => []
  | .orB => []
  | .orC => []
  | .orD => []
  | .orE => []
  | .orH => []
  | .orL => []
  | .orMemHl => []
  | .orA => []
  | .cpB => []
  | .cpC => []
  | .cpD => []
  | .cpE => []
  | .cpH => []
  | .cpL => []
  | .cpMemHl => []
  | .cpA => []
  | .retNz => []
  | .popBc => []
  | .jpNzN16 _ => []
  | .jpN16 _ => []
  | .callNzN16 _ => if s.regs.cond .nz then pushAddresses s.regs else []
  | .pushBc => pushAddresses s.regs
  | .addAN8 _ => []
  | .rst00 => pushAddresses s.regs
  | .retZ => []
  | .ret => []
  | .jpZN16 _ => []
  | .prefixCb cb => if cb.extractLsb' 0 3 = 6 ∧ cb.extractLsb' 6 2 ≠ 1 then [s.regs.hl] else []
  | .callZN16 _ => if s.regs.cond .z then pushAddresses s.regs else []
  | .callN16 _ => pushAddresses s.regs
  | .adcAN8 _ => []
  | .rst08 => pushAddresses s.regs
  | .retNc => []
  | .popDe => []
  | .jpNcN16 _ => []
  | .illegalD3 => []
  | .callNcN16 _ => if s.regs.cond .nc then pushAddresses s.regs else []
  | .pushDe => pushAddresses s.regs
  | .subN8 _ => []
  | .rst10 => pushAddresses s.regs
  | .retC => []
  | .reti => []
  | .jpCN16 _ => []
  | .illegalDB => []
  | .callCN16 _ => if s.regs.cond .c then pushAddresses s.regs else []
  | .illegalDD => []
  | .sbcAN8 _ => []
  | .rst18 => pushAddresses s.regs
  | .ldhMemN8A n => [highPage n]
  | .popHl => []
  | .ldMemCA => [highPage s.regs.c]
  | .illegalE3 => []
  | .illegalE4 => []
  | .pushHl => pushAddresses s.regs
  | .andN8 _ => []
  | .rst20 => pushAddresses s.regs
  | .addSpE8 _ => []
  | .jpHl => []
  | .ldMemN16A nn => [nn]
  | .illegalEB => []
  | .illegalEC => []
  | .illegalED => []
  | .xorN8 _ => []
  | .rst28 => pushAddresses s.regs
  | .ldhAMemN8 _ => []
  | .popAf => []
  | .ldAMemC => []
  | .di => []
  | .illegalF4 => []
  | .pushAf => pushAddresses s.regs
  | .orN8 _ => []
  | .rst30 => pushAddresses s.regs
  | .ldHlSpE8 _ => []
  | .ldSpHl => []
  | .ldAMemN16 _ => []
  | .ei => []
  | .illegalFC => []
  | .illegalFD => []
  | .cpN8 _ => []
  | .rst38 => pushAddresses s.regs
  | .rlcB => []
  | .rlcC => []
  | .rlcD => []
  | .rlcE => []
  | .rlcH => []
  | .rlcL => []
  | .rlcMemHl => [s.regs.hl]
  | .rlcA => []
  | .rrcB => []
  | .rrcC => []
  | .rrcD => []
  | .rrcE => []
  | .rrcH => []
  | .rrcL => []
  | .rrcMemHl => [s.regs.hl]
  | .rrcA => []
  | .rlB => []
  | .rlC => []
  | .rlD => []
  | .rlE => []
  | .rlH => []
  | .rlL => []
  | .rlMemHl => [s.regs.hl]
  | .rlA => []
  | .rrB => []
  | .rrC => []
  | .rrD => []
  | .rrE => []
  | .rrH => []
  | .rrL => []
  | .rrMemHl => [s.regs.hl]
  | .rrA => []
  | .slaB => []
  | .slaC => []
  | .slaD => []
  | .slaE => []
  | .slaH => []
  | .slaL => []
  | .slaMemHl => [s.regs.hl]
  | .slaA => []
  | .sraB => []
  | .sraC => []
  | .sraD => []
  | .sraE => []
  | .sraH => []
  | .sraL => []
  | .sraMemHl => [s.regs.hl]
  | .sraA => []
  | .swapB => []
  | .swapC => []
  | .swapD => []
  | .swapE => []
  | .swapH => []
  | .swapL => []
  | .swapMemHl => [s.regs.hl]
  | .swapA => []
  | .srlB => []
  | .srlC => []
  | .srlD => []
  | .srlE => []
  | .srlH => []
  | .srlL => []
  | .srlMemHl => [s.regs.hl]
  | .srlA => []
  | .bit0B => []
  | .bit0C => []
  | .bit0D => []
  | .bit0E => []
  | .bit0H => []
  | .bit0L => []
  | .bit0MemHl => []
  | .bit0A => []
  | .bit1B => []
  | .bit1C => []
  | .bit1D => []
  | .bit1E => []
  | .bit1H => []
  | .bit1L => []
  | .bit1MemHl => []
  | .bit1A => []
  | .bit2B => []
  | .bit2C => []
  | .bit2D => []
  | .bit2E => []
  | .bit2H => []
  | .bit2L => []
  | .bit2MemHl => []
  | .bit2A => []
  | .bit3B => []
  | .bit3C => []
  | .bit3D => []
  | .bit3E => []
  | .bit3H => []
  | .bit3L => []
  | .bit3MemHl => []
  | .bit3A => []
  | .bit4B => []
  | .bit4C => []
  | .bit4D => []
  | .bit4E => []
  | .bit4H => []
  | .bit4L => []
  | .bit4MemHl => []
  | .bit4A => []
  | .bit5B => []
  | .bit5C => []
  | .bit5D => []
  | .bit5E => []
  | .bit5H => []
  | .bit5L => []
  | .bit5MemHl => []
  | .bit5A => []
  | .bit6B => []
  | .bit6C => []
  | .bit6D => []
  | .bit6E => []
  | .bit6H => []
  | .bit6L => []
  | .bit6MemHl => []
  | .bit6A => []
  | .bit7B => []
  | .bit7C => []
  | .bit7D => []
  | .bit7E => []
  | .bit7H => []
  | .bit7L => []
  | .bit7MemHl => []
  | .bit7A => []
  | .res0B => []
  | .res0C => []
  | .res0D => []
  | .res0E => []
  | .res0H => []
  | .res0L => []
  | .res0MemHl => [s.regs.hl]
  | .res0A => []
  | .res1B => []
  | .res1C => []
  | .res1D => []
  | .res1E => []
  | .res1H => []
  | .res1L => []
  | .res1MemHl => [s.regs.hl]
  | .res1A => []
  | .res2B => []
  | .res2C => []
  | .res2D => []
  | .res2E => []
  | .res2H => []
  | .res2L => []
  | .res2MemHl => [s.regs.hl]
  | .res2A => []
  | .res3B => []
  | .res3C => []
  | .res3D => []
  | .res3E => []
  | .res3H => []
  | .res3L => []
  | .res3MemHl => [s.regs.hl]
  | .res3A => []
  | .res4B => []
  | .res4C => []
  | .res4D => []
  | .res4E => []
  | .res4H => []
  | .res4L => []
  | .res4MemHl => [s.regs.hl]
  | .res4A => []
  | .res5B => []
  | .res5C => []
  | .res5D => []
  | .res5E => []
  | .res5H => []
  | .res5L => []
  | .res5MemHl => [s.regs.hl]
  | .res5A => []
  | .res6B => []
  | .res6C => []
  | .res6D => []
  | .res6E => []
  | .res6H => []
  | .res6L => []
  | .res6MemHl => [s.regs.hl]
  | .res6A => []
  | .res7B => []
  | .res7C => []
  | .res7D => []
  | .res7E => []
  | .res7H => []
  | .res7L => []
  | .res7MemHl => [s.regs.hl]
  | .res7A => []
  | .set0B => []
  | .set0C => []
  | .set0D => []
  | .set0E => []
  | .set0H => []
  | .set0L => []
  | .set0MemHl => [s.regs.hl]
  | .set0A => []
  | .set1B => []
  | .set1C => []
  | .set1D => []
  | .set1E => []
  | .set1H => []
  | .set1L => []
  | .set1MemHl => [s.regs.hl]
  | .set1A => []
  | .set2B => []
  | .set2C => []
  | .set2D => []
  | .set2E => []
  | .set2H => []
  | .set2L => []
  | .set2MemHl => [s.regs.hl]
  | .set2A => []
  | .set3B => []
  | .set3C => []
  | .set3D => []
  | .set3E => []
  | .set3H => []
  | .set3L => []
  | .set3MemHl => [s.regs.hl]
  | .set3A => []
  | .set4B => []
  | .set4C => []
  | .set4D => []
  | .set4E => []
  | .set4H => []
  | .set4L => []
  | .set4MemHl => [s.regs.hl]
  | .set4A => []
  | .set5B => []
  | .set5C => []
  | .set5D => []
  | .set5E => []
  | .set5H => []
  | .set5L => []
  | .set5MemHl => [s.regs.hl]
  | .set5A => []
  | .set6B => []
  | .set6C => []
  | .set6D => []
  | .set6E => []
  | .set6H => []
  | .set6L => []
  | .set6MemHl => [s.regs.hl]
  | .set6A => []
  | .set7B => []
  | .set7C => []
  | .set7D => []
  | .set7E => []
  | .set7H => []
  | .set7L => []
  | .set7MemHl => [s.regs.hl]
  | .set7A => []

end Sys2Proof.Machine
end

