-- ==== Sys2Proof/Certificates/Slice0/Obligations.lean ====
section
/-! DEFINITION. The statements for the provers. They say what an instruction or the machine does by the numbered rules of spec/.
A result statement gives the instruction's bytes and the whole next state, so that it says what the instruction leaves unchanged too:
`retires`, `jumps` and `pushed` (Sys2Proof/Safety.lean) keep every field they do not name. -/

section

open Sys2Proof Sys2Proof.Machine

/-! ## Loads, stores and stack transfers (40_load.md) -/

/-- R300 `LD r,r'`, R301 `LD r,n8`, R302 `LD r,(HL)`, whose address is formed before the write; the registers the 3-bit field names
(30_encoding.md R203). -/
def Obligations.RegisterLoads : Prop :=
  ∀ (dst r : Reg8) (n : Byte) (s : State),
    (r.code = match r with | .b => 0 | .c => 1 | .d => 2 | .e => 3 | .h => 4 | .l => 5 | .a => 7) ∧
    (s.regs.get r = match r with
      | .b => s.regs.b | .c => s.regs.c | .d => s.regs.d | .e => s.regs.e | .h => s.regs.h | .l => s.regs.l | .a => s.regs.a) ∧
    (s.regs.set dst n = match dst with
      | .b => { s.regs with b := n }
      | .c => { s.regs with c := n }
      | .d => { s.regs with d := n }
      | .e => { s.regs with e := n }
      | .h => { s.regs with h := n }
      | .l => { s.regs with l := n }
      | .a => { s.regs with a := n }) ∧
    (encode (Instr.ldRegReg dst r) = [opcodeXYZ 1 dst.code r.code] ∧
      exec (Instr.ldRegReg dst r) s = .next (s.retires 1 4 fun g => g.set dst (g.get r))) ∧
    (encode (Instr.ldRegImm dst n) = [opcodeXYZ 0 dst.code 6, n] ∧
      exec (Instr.ldRegImm dst n) s = .next (s.retires 2 8 fun g => g.set dst n)) ∧
    (encode (Instr.ldRegMem dst) = [opcodeXYZ 1 dst.code 6] ∧
      exec (Instr.ldRegMem dst) s = .next (s.retires 1 8 fun g => g.set dst (s.readByte s.regs.hl)))

/-- R303 `LD (HL),r`, R304 `LD (HL),n8`; R307, R308, R310, R312, R314: A stored to (BC), (DE), (n16), the high page at n8 and at C;
R317, R318: A stored to (HL), HL then incremented or decremented modulo 2^16. -/
def Obligations.ByteStores : Prop :=
  ∀ (r : Reg8) (n : Byte) (nn : Word) (s : State),
    let up := s.regs.h ++ s.regs.l + 1#16
    let down := s.regs.h ++ s.regs.l - 1#16
    (encode (Instr.ldMemReg r) = [opcodeXYZ 1 6 r.code] ∧
      exec (Instr.ldMemReg r) s = .next ((s.writeByte s.regs.hl (s.regs.get r)).retires 1 8 id)) ∧
    (encode (.ldMemHlN8 n) = [0x36, n] ∧
      exec (.ldMemHlN8 n) s = .next ((s.writeByte s.regs.hl n).retires 2 12 id)) ∧
    (encode .ldMemBcA = [0x02] ∧ exec .ldMemBcA s = .next ((s.writeByte s.regs.bc s.regs.a).retires 1 8 id)) ∧
    (encode .ldMemDeA = [0x12] ∧ exec .ldMemDeA s = .next ((s.writeByte s.regs.de s.regs.a).retires 1 8 id)) ∧
    (encode (.ldMemN16A nn) = [0xEA, nn.extractLsb' 0 8, nn.extractLsb' 8 8] ∧
      exec (.ldMemN16A nn) s = .next ((s.writeByte nn s.regs.a).retires 3 16 id)) ∧
    (encode (.ldhMemN8A n) = [0xE0, n] ∧
      exec (.ldhMemN8A n) s = .next ((s.writeByte (0xFF00 + n.setWidth 16) s.regs.a).retires 2 12 id)) ∧
    (encode .ldMemCA = [0xE2] ∧
      exec .ldMemCA s = .next ((s.writeByte (0xFF00 + s.regs.c.setWidth 16) s.regs.a).retires 1 8 id)) ∧
    (encode .ldMemHlIncA = [0x22] ∧
      exec .ldMemHlIncA s =
        .next ((s.writeByte s.regs.hl s.regs.a).retires 1 8 fun g => { g with h := up.extractLsb' 8 8, l := up.extractLsb' 0 8 })) ∧
    (encode .ldMemHlDecA = [0x32] ∧
      exec .ldMemHlDecA s =
        .next ((s.writeByte s.regs.hl s.regs.a).retires 1 8 fun g => { g with h := down.extractLsb' 8 8, l := down.extractLsb' 0 8 }))

/-- R305, R306, R309, R311, R313: A loaded from (BC), (DE), (n16), the high page at n8 and at C; R315, R316: A loaded from (HL), HL then incremented or
decremented modulo 2^16. -/
def Obligations.AccumulatorLoads : Prop :=
  ∀ (n : Byte) (nn : Word) (s : State),
    let up := s.regs.h ++ s.regs.l + 1#16
    let down := s.regs.h ++ s.regs.l - 1#16
    (encode .ldAMemBc = [0x0A] ∧
      exec .ldAMemBc s = .next (s.retires 1 8 fun g => { g with a := s.readByte s.regs.bc })) ∧
    (encode .ldAMemDe = [0x1A] ∧
      exec .ldAMemDe s = .next (s.retires 1 8 fun g => { g with a := s.readByte s.regs.de })) ∧
    (encode (.ldAMemN16 nn) = [0xFA, nn.extractLsb' 0 8, nn.extractLsb' 8 8] ∧
      exec (.ldAMemN16 nn) s = .next (s.retires 3 16 fun g => { g with a := s.readByte nn })) ∧
    (encode (.ldhAMemN8 n) = [0xF0, n] ∧
      exec (.ldhAMemN8 n) s = .next (s.retires 2 12 fun g => { g with a := s.readByte (0xFF00 + n.setWidth 16) })) ∧
    (encode .ldAMemC = [0xF2] ∧
      exec .ldAMemC s = .next (s.retires 1 8 fun g => { g with a := s.readByte (0xFF00 + s.regs.c.setWidth 16) })) ∧
    (encode .ldAMemHlInc = [0x2A] ∧
      exec .ldAMemHlInc s = .next (s.retires 1 8 fun g =>
        { g with a := s.readByte s.regs.hl, h := up.extractLsb' 8 8, l := up.extractLsb' 0 8 })) ∧
    (encode .ldAMemHlDec = [0x3A] ∧
      exec .ldAMemHlDec s = .next (s.retires 1 8 fun g =>
        { g with a := s.readByte s.regs.hl, h := down.extractLsb' 8 8, l := down.extractLsb' 0 8 }))

/-- R33: the four pair reads, the high register in bits 15 to 8; R204: the field `rp`; R319 `LD rr,n16`, R320 `LD (n16),SP` (low byte first), R321
`LD SP,HL`. -/
def Obligations.WordLoads : Prop :=
  ∀ (p : Pair) (nn : Word) (s : State),
    (s.regs.af = s.regs.a ++ (s.regs.f &&& 0xF0) ∧ s.regs.bc = s.regs.b ++ s.regs.c ∧ s.regs.de = s.regs.d ++ s.regs.e ∧
      s.regs.hl = s.regs.h ++ s.regs.l) ∧
    (p.code = match p with | .bc => 0 | .de => 1 | .hl => 2 | .sp => 3) ∧
    (s.regs.pair p = match p with
      | .bc => s.regs.b ++ s.regs.c
      | .de => s.regs.d ++ s.regs.e
      | .hl => s.regs.h ++ s.regs.l
      | .sp => s.regs.sp) ∧
    (encode (Instr.ldPairImm p nn) = [opcodeXP 0 p.code 1, nn.extractLsb' 0 8, nn.extractLsb' 8 8] ∧
      exec (Instr.ldPairImm p nn) s = .next (s.retires 3 12 fun g =>
        match p with
        | .bc => { g with b := nn.extractLsb' 8 8, c := nn.extractLsb' 0 8 }
        | .de => { g with d := nn.extractLsb' 8 8, e := nn.extractLsb' 0 8 }
        | .hl => { g with h := nn.extractLsb' 8 8, l := nn.extractLsb' 0 8 }
        | .sp => { g with sp := nn })) ∧
    (encode (.ldMemN16Sp nn) = [0x08, nn.extractLsb' 0 8, nn.extractLsb' 8 8] ∧
      exec (.ldMemN16Sp nn) s =
        .next (((s.writeByte nn (s.regs.sp.extractLsb' 0 8)).writeByte (nn + 1) (s.regs.sp.extractLsb' 8 8)).retires 3 20 id)) ∧
    (encode .ldSpHl = [0xF9] ∧ exec .ldSpHl s = .next (s.retires 1 8 fun g => { g with sp := s.regs.hl }))

/-- R322, R324 `PUSH rr`: the high byte to SP − 1, then the low byte to SP − 2; SP ends two lower, modulo 2^16; R205: the field `rp2`. -/
def Obligations.PushStoresPair : Prop :=
  ∀ (q : StackPair) (s : State),
    let v : Word := match q with
      | .bc => s.regs.b ++ s.regs.c
      | .de => s.regs.d ++ s.regs.e
      | .hl => s.regs.h ++ s.regs.l
      | .af => s.regs.a ++ (s.regs.f &&& 0xF0)
    (q.code = match q with | .bc => 0 | .de => 1 | .hl => 2 | .af => 3) ∧
    encode (Instr.push q) = [opcodeXP 3 q.code 5] ∧
    exec (Instr.push q) s = .next ((s.pushed v).retires 1 16 fun g => { g with sp := s.regs.sp - 2 })

/-- R323, R325, R326 `POP rr`: the low byte at SP, the high byte at SP + 1; into AF the low nibble of F is forced to zero. -/
def Obligations.PopLoadsPair : Prop :=
  ∀ (q : StackPair) (s : State),
    let lo := s.readByte s.regs.sp
    let hi := s.readByte (s.regs.sp + 1)
    encode (Instr.pop q) = [opcodeXP 3 q.code 1] ∧
    exec (Instr.pop q) s =
      .next (s.retires 1 12 fun g =>
        match q with
        | .bc => { g with b := hi, c := lo, sp := s.regs.sp + 2 }
        | .de => { g with d := hi, e := lo, sp := s.regs.sp + 2 }
        | .hl => { g with h := hi, l := lo, sp := s.regs.sp + 2 }
        | .af => { g with a := hi, f := lo &&& 0xF0, sp := s.regs.sp + 2 })

/-- PUSH then POP of a pair gives the pair and SP back where both stack bytes lie in WRAM (R322's "After `Push16`, `MemRead(SP, 2) = v`", which the
spec derives; the low nibble of F is zero by R32). -/
def Obligations.PushThenPop : Prop :=
  ∀ (q : StackPair) (s t u : State),
    s.regs.f &&& 0x0F = 0 → 0xC002 ≤ s.regs.sp.toNat → s.regs.sp.toNat ≤ 0xE000 →
    exec (Instr.push q) s = .next t → exec (Instr.pop q) t = .next u →
    u.regs = { s.regs with pc := s.regs.pc + 2 }

/-! ## 8-bit arithmetic and logic (41_alu8.md) -/

/-- R401 `ADD A,s`, R402 `ADC A,s`. -/
def Obligations.AddAndAdc : Prop :=
  ∀ (x : AluSrc) (s : State),
    let a := s.regs.a.toNat
    let v := (s.aluSource x).toNat
    let c := s.regs.cf.toNat
    (encode (Instr.alu .add x) = aluBytes 0 x ∧
      exec (Instr.alu .add x) s = .next (s.retires (aluBytes 0 x).length (aluCost x) fun g =>
        { g with
          a := BitVec.ofNat 8 (a + v)
          f := packFlags ((a + v) % 256 = 0) false (a % 16 + v % 16 > 0x0F) (a + v > 0xFF) })) ∧
    (encode (Instr.alu .adc x) = aluBytes 1 x ∧
      exec (Instr.alu .adc x) s = .next (s.retires (aluBytes 1 x).length (aluCost x) fun g =>
        { g with
          a := BitVec.ofNat 8 (a + v + c)
          f := packFlags ((a + v + c) % 256 = 0) false (a % 16 + v % 16 + c > 0x0F) (a + v + c > 0xFF) }))

/-- R403 `SUB s`, R404 `SBC A,s`. -/
def Obligations.SubAndSbc : Prop :=
  ∀ (x : AluSrc) (s : State),
    let a := s.regs.a.toNat
    let v := (s.aluSource x).toNat
    let c := s.regs.cf.toNat
    (encode (Instr.alu .sub x) = aluBytes 2 x ∧
      exec (Instr.alu .sub x) s = .next (s.retires (aluBytes 2 x).length (aluCost x) fun g =>
        { g with
          a := BitVec.ofNat 8 (a + 256 - v)
          f := packFlags ((a + 256 - v) % 256 = 0) true (a % 16 < v % 16) (a < v) })) ∧
    (encode (Instr.alu .sbc x) = aluBytes 3 x ∧
      exec (Instr.alu .sbc x) s = .next (s.retires (aluBytes 3 x).length (aluCost x) fun g =>
        { g with
          a := BitVec.ofNat 8 (a + 256 - v - c)
          f := packFlags ((a + 256 - v - c) % 256 = 0) true (a % 16 < v % 16 + c) (a < v + c) }))

/-- R400: the three forms of the second operand and their costs; R405 `AND s`, R406 `XOR s`, R407 `OR s`, R408 `CP s`, which writes the flags alone. -/
def Obligations.LogicAndCompare : Prop :=
  ∀ (x : AluSrc) (s : State),
    let a := s.regs.a.toNat
    let v := s.aluSource x
    (match x with
      | .reg r => v = s.regs.get r ∧ aluCost x = 4
      | .memHl => v = s.readByte s.regs.hl ∧ aluCost x = 8
      | .imm n => v = n ∧ aluCost x = 8) ∧
    (encode (Instr.alu .and x) = aluBytes 4 x ∧
      exec (Instr.alu .and x) s = .next (s.retires (aluBytes 4 x).length (aluCost x) fun g =>
        { g with a := g.a &&& v, f := packFlags (g.a &&& v = 0) false true false })) ∧
    (encode (Instr.alu .xor x) = aluBytes 5 x ∧
      exec (Instr.alu .xor x) s = .next (s.retires (aluBytes 5 x).length (aluCost x) fun g =>
        { g with a := g.a ^^^ v, f := packFlags (g.a ^^^ v = 0) false false false })) ∧
    (encode (Instr.alu .or x) = aluBytes 6 x ∧
      exec (Instr.alu .or x) s = .next (s.retires (aluBytes 6 x).length (aluCost x) fun g =>
        { g with a := g.a ||| v, f := packFlags (g.a ||| v = 0) false false false })) ∧
    (encode (Instr.alu .cp x) = aluBytes 7 x ∧
      exec (Instr.alu .cp x) s = .next (s.retires (aluBytes 7 x).length (aluCost x) fun g =>
        { g with f := packFlags (a = v.toNat) true (a % 16 < v.toNat % 16) (a < v.toNat) }))

/-- R409 `INC r`, R411 `DEC r`: C unchanged. -/
def Obligations.IncDecRegister : Prop :=
  ∀ (r : Reg8) (s : State),
    let v := s.regs.get r
    (encode (Instr.incReg r) = [opcodeXYZ 0 r.code 4] ∧
      exec (Instr.incReg r) s = .next (s.retires 1 4 fun g =>
        { g.set r (v + 1) with f := packFlags (v + 1 = 0) false (v &&& 0x0F = 0x0F) s.regs.cf })) ∧
    (encode (Instr.decReg r) = [opcodeXYZ 0 r.code 5] ∧
      exec (Instr.decReg r) s = .next (s.retires 1 4 fun g =>
        { g.set r (v - 1) with f := packFlags (v - 1 = 0) true (v &&& 0x0F = 0x00) s.regs.cf }))

/-- R410 `INC (HL)`, R412 `DEC (HL)`: one read and one write of the byte at HL, C unchanged. -/
def Obligations.IncDecMemory : Prop :=
  ∀ s : State,
    let v := s.readByte s.regs.hl
    (encode .incMemHl = [0x34] ∧
      exec .incMemHl s = .next ((s.writeByte s.regs.hl (v + 1)).retires 1 12 fun g =>
        { g with f := packFlags (v + 1 = 0) false (v &&& 0x0F = 0x0F) s.regs.cf })) ∧
    (encode .decMemHl = [0x35] ∧
      exec .decMemHl s = .next ((s.writeByte s.regs.hl (v - 1)).retires 1 12 fun g =>
        { g with f := packFlags (v - 1 = 0) true (v &&& 0x0F = 0x00) s.regs.cf }))

/-- R413 `DAA`: the pseudocode, defined for every A and every flag combination; R414 `CPL`, R415 `SCF`, R416 `CCF`; R31: the layout of F, as the flags
are read and as they are put together. -/
def Obligations.AccumulatorAndFlags : Prop :=
  ∀ s : State,
    (s.regs.zf = s.regs.f.getLsbD 7 ∧ s.regs.nf = s.regs.f.getLsbD 6 ∧ s.regs.hf = s.regs.f.getLsbD 5 ∧ s.regs.cf = s.regs.f.getLsbD 4) ∧
    (∀ z n h c : Bool, packFlags z n h c =
      (if z then 0x80 else 0) ||| (if n then 0x40 else 0) ||| (if h then 0x20 else 0) ||| (if c then 0x10 else 0)) ∧
    let r := daaSteps s.regs.a.toNat s.regs.nf s.regs.hf s.regs.cf
    (encode .daa = [0x27] ∧
      exec .daa s = .next (s.retires 1 4 fun g =>
        { g with a := BitVec.ofNat 8 r.1, f := packFlags (r.1 = 0) s.regs.nf false r.2 })) ∧
    (encode .cpl = [0x2F] ∧
      exec .cpl s = .next (s.retires 1 4 fun g => { g with a := ~~~g.a, f := packFlags s.regs.zf true true s.regs.cf })) ∧
    (encode .scf = [0x37] ∧
      exec .scf s = .next (s.retires 1 4 fun g => { g with f := packFlags s.regs.zf false false true })) ∧
    (encode .ccf = [0x3F] ∧
      exec .ccf s = .next (s.retires 1 4 fun g => { g with f := packFlags s.regs.zf false false (!s.regs.cf) }))

/-! ## 16-bit arithmetic (42_alu16.md) -/

/-- R450 `ADD HL,rr`: Z unchanged, H out of bit 11, C out of bit 15. -/
def Obligations.AddHl : Prop :=
  ∀ (p : Pair) (s : State),
    let x := s.regs.h.toNat * 256 + s.regs.l.toNat
    let v := match p with
      | .bc => s.regs.b.toNat * 256 + s.regs.c.toNat
      | .de => s.regs.d.toNat * 256 + s.regs.e.toNat
      | .hl => s.regs.h.toNat * 256 + s.regs.l.toNat
      | .sp => s.regs.sp.toNat
    encode (Instr.addHlPair p) = [opcodeXP 0 p.code 9] ∧
    exec (Instr.addHlPair p) s = .next (s.retires 1 8 fun g =>
      { g with
        h := (BitVec.ofNat 16 (x + v)).extractLsb' 8 8
        l := (BitVec.ofNat 16 (x + v)).extractLsb' 0 8
        f := packFlags s.regs.zf false (x % 0x1000 + v % 0x1000 > 0x0FFF) (x + v > 0xFFFF) })

/-- R451 `INC rr`, R452 `DEC rr`: modulo 2^16, no flag. -/
def Obligations.IncDecPair : Prop :=
  ∀ (p : Pair) (s : State),
    let old : Word := match p with
      | .bc => s.regs.b ++ s.regs.c
      | .de => s.regs.d ++ s.regs.e
      | .hl => s.regs.h ++ s.regs.l
      | .sp => s.regs.sp
    let put (v : Word) (g : Regs) : Regs := match p with
      | .bc => { g with b := v.extractLsb' 8 8, c := v.extractLsb' 0 8 }
      | .de => { g with d := v.extractLsb' 8 8, e := v.extractLsb' 0 8 }
      | .hl => { g with h := v.extractLsb' 8 8, l := v.extractLsb' 0 8 }
      | .sp => { g with sp := v }
    (encode (Instr.incPair p) = [opcodeXP 0 p.code 3] ∧
      exec (Instr.incPair p) s = .next (s.retires 1 8 (put (old + 1)))) ∧
    (encode (Instr.decPair p) = [opcodeXP 0 p.code 11] ∧
      exec (Instr.decPair p) s = .next (s.retires 1 8 (put (old - 1))))

/-- R453 `ADD SP,e`, R454 `LD HL,SP+e`: H and C from the unsigned addition of the low byte of SP and the operand byte. -/
def Obligations.StackDisplacement : Prop :=
  ∀ (e : Byte) (s : State),
    let sp := s.regs.sp.toNat
    let flags := packFlags false false (sp % 16 + e.toNat % 16 > 0x0F) (sp % 256 + e.toNat > 0xFF)
    (encode (.addSpE8 e) = [0xE8, e] ∧
      exec (.addSpE8 e) s = .next (s.retires 2 16 fun g => { g with sp := BitVec.ofInt 16 (sp + e.toInt), f := flags })) ∧
    (encode (.ldHlSpE8 e) = [0xF8, e] ∧
      exec (.ldHlSpE8 e) s = .next (s.retires 2 12 fun g =>
        { g with
          h := (BitVec.ofInt 16 (sp + e.toInt)).extractLsb' 8 8
          l := (BitVec.ofInt 16 (sp + e.toInt)).extractLsb' 0 8
          f := flags }))

/-! ## Accumulator rotates (43_rotate_a.md) -/

/-- R480 `RLCA`, R481 `RRCA`, R482 `RLA`, R483 `RRA`: Z, N and H always cleared. -/
def Obligations.AccumulatorRotates : Prop :=
  ∀ s : State,
    let carry : Byte := if s.regs.cf then 1 else 0
    (encode .rlca = [0x07] ∧ exec .rlca s = .next (s.retires 1 4 fun g =>
      { g with a := g.a.rotateLeft 1, f := packFlags false false false (g.a.getLsbD 7) })) ∧
    (encode .rrca = [0x0F] ∧ exec .rrca s = .next (s.retires 1 4 fun g =>
      { g with a := g.a.rotateRight 1, f := packFlags false false false (g.a.getLsbD 0) })) ∧
    (encode .rla = [0x17] ∧ exec .rla s = .next (s.retires 1 4 fun g =>
      { g with a := g.a <<< 1 ||| carry, f := packFlags false false false (g.a.getLsbD 7) })) ∧
    (encode .rra = [0x1F] ∧ exec .rra s = .next (s.retires 1 4 fun g =>
      { g with a := g.a >>> 1 ||| carry <<< 7, f := packFlags false false false (g.a.getLsbD 0) }))

/-! ## Jumps, calls, returns and restarts (44_control.md) -/

/-- R500 `JP n16`, R501 `JP cc,n16`, R502 `JP HL`, and the conditions of 30_encoding.md R206. -/
def Obligations.Jumps : Prop :=
  ∀ (cc : Cond) (nn : Word) (s : State),
    (cc.code = match cc with | .nz => 0 | .z => 1 | .nc => 2 | .c => 3) ∧
    (s.regs.cond cc = match cc with
      | .nz => !s.regs.f.getLsbD 7
      | .z => s.regs.f.getLsbD 7
      | .nc => !s.regs.f.getLsbD 4
      | .c => s.regs.f.getLsbD 4) ∧
    (encode (.jpN16 nn) = [0xC3, nn.extractLsb' 0 8, nn.extractLsb' 8 8] ∧
      exec (.jpN16 nn) s = .next (s.jumps nn 16 id)) ∧
    (encode (Instr.jpCond cc nn) = [opcodeXYZ 3 (0#1 ++ cc.code) 2, nn.extractLsb' 0 8, nn.extractLsb' 8 8] ∧
      exec (Instr.jpCond cc nn) s = .next (if s.regs.cond cc then s.jumps nn 16 id else s.retires 3 12 id)) ∧
    (encode .jpHl = [0xE9] ∧ exec .jpHl s = .next (s.jumps s.regs.hl 4 id))

/-- R503 `JR e8`, R504 `JR cc,e8`: relative to the address after the instruction. -/
def Obligations.RelativeJumps : Prop :=
  ∀ (cc : Cond) (e : Byte) (s : State),
    let target := s.regs.pc + 2 + BitVec.ofInt 16 e.toInt
    (encode (.jrE8 e) = [0x18, e] ∧ exec (.jrE8 e) s = .next (s.jumps target 12 id)) ∧
    (encode (Instr.jrCond cc e) = [opcodeXYZ 0 (1#1 ++ cc.code) 0, e] ∧
      exec (Instr.jrCond cc e) s = .next (if s.regs.cond cc then s.jumps target 12 id else s.retires 2 8 id))

/-- R505 `CALL n16`, R506 `CALL cc,n16`, R510 `RST t`: the address after the instruction is pushed. -/
def Obligations.Calls : Prop :=
  ∀ (cc : Cond) (nn : Word) (y : Fin 8) (s : State),
    let pushing (ret target : Word) (cost : Nat) : State :=
      (s.pushed ret).jumps target cost fun g => { g with sp := s.regs.sp - 2 }
    (encode (.callN16 nn) = [0xCD, nn.extractLsb' 0 8, nn.extractLsb' 8 8] ∧
      exec (.callN16 nn) s = .next (pushing (s.regs.pc + 3) nn 24)) ∧
    (encode (Instr.callCond cc nn) = [opcodeXYZ 3 (0#1 ++ cc.code) 4, nn.extractLsb' 0 8, nn.extractLsb' 8 8] ∧
      exec (Instr.callCond cc nn) s =
        .next (if s.regs.cond cc then pushing (s.regs.pc + 3) nn 24 else s.retires 3 12 id)) ∧
    (encode (Instr.rst y) = [opcodeXYZ 3 (BitVec.ofNat 3 y.val) 7] ∧
      exec (Instr.rst y) s = .next (pushing (s.regs.pc + 1) (BitVec.ofNat 16 (8 * y.val)) 16))

/-- R507 `RET`, R508 `RET cc`, R509 `RETI`, which also sets IME. -/
def Obligations.Returns : Prop :=
  ∀ (cc : Cond) (s : State),
    let returning (cost : Nat) : State :=
      s.jumps (s.readByte (s.regs.sp + 1) ++ s.readByte s.regs.sp) cost fun g => { g with sp := s.regs.sp + 2 }
    (encode .ret = [0xC9] ∧ exec .ret s = .next (returning 16)) ∧
    (encode (Instr.retCond cc) = [opcodeXYZ 3 (0#1 ++ cc.code) 0] ∧
      exec (Instr.retCond cc) s = .next (if s.regs.cond cc then returning 20 else s.retires 1 8 id)) ∧
    (encode .reti = [0xD9] ∧ exec .reti s = .next { returning 16 with ime := true })

/-! ## System instructions (45_system.md) -/

/-- R550 `NOP`, R551 `HALT`, R555 `DI`, R556 `EI`; R554 `STOP` by the parameter `STOP_MODE`: IllegalOpcode(0x10, pc0), or a two-byte instruction of 4
cycles that does nothing. That the faulted state is a next state of the instruction is the model's choice (log entry 3). -/
def Obligations.SystemInstructions : Prop :=
  ∀ (n : Byte) (s : State),
    (encode .nop = [0x00] ∧ exec .nop s = .next (s.retires 1 4 id)) ∧
    (encode .halt = [0x76] ∧ exec .halt s = .next { s.retires 1 4 id with halted := true }) ∧
    (encode .di = [0xF3] ∧ exec .di s = .next { s.retires 1 4 id with ime := false }) ∧
    (encode .ei = [0xFB] ∧ exec .ei s = .next { s.retires 1 4 id with ime := true }) ∧
    (encode (.stop n) = [0x10, n] ∧
      exec (.stop n) s = .next (match s.params.stopMode with
        | .fault => { s with
            regs := { s.regs with pc := s.regs.pc + 1 }
            fault := some (.illegalOpcode 0x10 s.regs.pc) }
        | .nop2 => s.retires 2 4 id))

/-- R216 the eleven opcode values without an operation; R557, R701: each takes the fault, which carries the opcode and the address it was
fetched from. That the faulted state is a next state of the instruction, in which `step` then answers the fault, is the model's choice (log
entry 3). -/
def Obligations.IllegalOpcodes : Prop :=
  (∀ op : Byte, (∃ k : IllegalOp, primary op = .plain (Instr.illegal k)) ↔
    op ∈ ([0xD3, 0xDB, 0xDD, 0xE3, 0xE4, 0xEB, 0xEC, 0xED, 0xF4, 0xFC, 0xFD] : List Byte)) ∧
  ∀ (k : IllegalOp) (s : State),
    encode (Instr.illegal k) = [k.code] ∧
    exec (Instr.illegal k) s = .next { s with
      regs := { s.regs with pc := s.regs.pc + 1 }
      fault := some (.illegalOpcode k.code s.regs.pc) }

/-! ## Prefixed instructions (46_cb_prefix.md) -/

/-- R604 to R611: the eight shifts and rotates of a register or of the byte at HL; Z from the result, N and H cleared, C the bit shifted out. -/
def Obligations.Shifts : Prop :=
  ∀ (k : ShiftOp) (o : Operand8) (s : State),
    let v := s.readOperand o
    let carry : Byte := if s.regs.cf then 1 else 0
    let w : Byte := match k with
      | .rlc => v.rotateLeft 1
      | .rrc => v.rotateRight 1
      | .rl => v <<< 1 ||| carry
      | .rr => v >>> 1 ||| carry <<< 7
      | .sla => v <<< 1
      | .sra => v.sshiftRight 1
      | .swap => v.rotateLeft 4
      | .srl => v >>> 1
    let out : Bool := match k with
      | .rlc | .rl | .sla => v.getLsbD 7
      | .rrc | .rr | .sra | .srl => v.getLsbD 0
      | .swap => false
    encode (Instr.shift k o) = [0xCB, opcodeXYZ 0 k.code o.code] ∧
    exec (Instr.shift k o) s = .next ((s.writeOperand o w).retires 2 (if o = .memHl then 16 else 8) fun g =>
      { g with f := packFlags (w = 0) false false out })

/-- R612 `BIT b,o`: Z the complement of the bit, C unchanged, nothing written back; over (HL) the cost is `CB_BIT_HL_CYCLES`. -/
def Obligations.BitTest : Prop :=
  ∀ (b : Fin 8) (o : Operand8) (s : State),
    encode (Instr.bit b o) = [0xCB, opcodeXYZ 1 (BitVec.ofNat 3 b.val) o.code] ∧
    exec (Instr.bit b o) s = .next (s.retires 2 (if o = .memHl then match s.params.bitHlCost with | .source => 16 | .console => 12 else 8) fun g =>
      { g with f := packFlags (!(s.readOperand o).getLsbD b.val) false true s.regs.cf })

/-- R613 `RES b,o`, R614 `SET b,o`: one read and one write, no flag. -/
def Obligations.BitResetAndSet : Prop :=
  ∀ (b : Fin 8) (o : Operand8) (s : State),
    let v := s.readOperand o
    (encode (Instr.res b o) = [0xCB, opcodeXYZ 2 (BitVec.ofNat 3 b.val) o.code] ∧
      exec (Instr.res b o) s =
        .next ((s.writeOperand o (v &&& ~~~(1#8 <<< b.val))).retires 2 (if o = .memHl then 16 else 8) id)) ∧
    (encode (Instr.set b o) = [0xCB, opcodeXYZ 3 (BitVec.ofNat 3 b.val) o.code] ∧
      exec (Instr.set b o) s =
        .next ((s.writeOperand o (v ||| 1#8 <<< b.val)).retires 2 (if o = .memHl then 16 else 8) id))

/-- R600: the fields of the second byte select the instruction; R601: the operand it reads and writes; R558: the prefix and its second byte are that
one instruction. -/
def Obligations.PrefixSelectsSecondRow : Prop :=
  ∀ (cb v : Byte) (s : State),
    let y : BitVec 3 := cb.extractLsb' 3 3
    let o : Operand8 := match (cb.extractLsb' 0 3).toNat with
      | 0 => .reg .b | 1 => .reg .c | 2 => .reg .d | 3 => .reg .e | 4 => .reg .h | 5 => .reg .l | 6 => .memHl | _ => .reg .a
    let k : ShiftOp := match y.toNat with
      | 0 => .rlc | 1 => .rrc | 2 => .rl | 3 => .rr | 4 => .sla | 5 => .sra | 6 => .swap | _ => .srl
    (secondary cb = match (cb.extractLsb' 6 2).toNat with
      | 0 => Instr.shift k o | 1 => Instr.bit y.toFin o | 2 => Instr.res y.toFin o | _ => Instr.set y.toFin o) ∧
    (s.readOperand o = match o with | .reg r => s.regs.get r | .memHl => s.readByte s.regs.hl) ∧
    (s.writeOperand o v = match o with
      | .reg r => { s with regs := s.regs.set r v }
      | .memHl => s.writeByte s.regs.hl v) ∧
    encode (.prefixCb cb) = [0xCB, cb] ∧
    decode [0xCB, cb] = .ok (secondary cb, []) ∧
    exec (.prefixCb cb) s = exec (secondary cb) s

/-- SWAP twice restores a register (R610's "Nibble-swap applied twice to any byte value returns the original value", marked derived). -/
def Obligations.SwapTwice : Prop :=
  ∀ (r : Reg8) (s t u : State),
    exec (Instr.shift .swap (.reg r)) s = .next t → exec (Instr.shift .swap (.reg r)) t = .next u →
    u.regs.get r = s.regs.get r ∧ u.regs.f = packFlags (s.regs.get r = 0) false false false

/-! ## Encoding (30_encoding.md) -/

/-- Decoding the encoding of a well-formed instruction, whatever bytes follow it, gives the instruction and those bytes (sections 1 to 7). -/
def Obligations.DecodeOfEncode : Prop :=
  ∀ (i : Instr) (rest : List Byte), i.wf = true → decode (encode i ++ rest) = .ok (i, rest)

/-- Every three bytes start with one well-formed instruction, whose encoding they are, and the first byte tells its length (R218 and R219, which
the spec derives). -/
def Obligations.EveryByteDecodes : Prop :=
  ∀ b0 b1 b2 : Byte, ∃ (i : Instr) (rest : List Byte),
    decode [b0, b1, b2] = .ok (i, rest) ∧ i.wf = true ∧ encode i ++ rest = [b0, b1, b2] ∧
    (primary b0).length = (encode i).length ∧ (encode i).length = i.row.length

/-- A few words written out from the encodings of the instruction rules: R304, R309, R324, R401, R454, R504, R510, R551, R609, R612. -/
def Obligations.SampleWords : Prop :=
  decode [0b00110110, 0x05] = .ok (.ldMemHlN8 0x05, []) ∧
  decode [0xFA, 0x04, 0x01] = .ok (.ldAMemN16 0x0104, []) ∧
  decode [0b11110101] = .ok (.pushAf, []) ∧
  decode [0b10000000] = .ok (.addAB, []) ∧
  decode [0b11111000, 0x80] = .ok (.ldHlSpE8 0x80, []) ∧
  decode [0b00100000, 0xFC] = .ok (.jrNzE8 0xFC, []) ∧
  decode [0b11111111] = .ok (.rst38, []) ∧
  decode [0b01110110] = .ok (.halt, []) ∧
  decode [0xCB, 0b00101111] = .ok (.sraA, []) ∧
  decode [0xCB, 0b01111100] = .ok (.bit7H, [])

/-! ## The step (30_encoding.md R212 to R217, 45_system.md, 60_exceptions.md) -/

/-- When the bytes at the program counter decode to `i`, a step of a machine neither stopped nor faulted nor idling is `exec i` on the woken state,
and then the display and the driver's total advance by exactly the step's cost (R212, R215, R750); a step that faults leaves `halted` as it was
(R702, log entry 21). -/
def Obligations.StepRunsDecoded : Prop :=
  ∀ (s : State) (i : Instr) (rest : List Byte),
    s.stop = false → s.fault = none → s.idles = false →
    decode [s.readByte s.regs.pc, s.readByte (s.regs.pc + 1), s.readByte (s.regs.pc + 2)] = .ok (i, rest) →
    i.wf = true ∧
    step s = match exec i { s with halted := false } with
      | .next t =>
        let cost := t.cycles - s.cycles
        let u := State.advance cost t
        .next { u with frameTotal := u.frameTotal + cost, halted := if t.fault = none then u.halted else s.halted }
      | .fault f => .fault f
      | .refused r => .refused r

/-- R552: while halted with no enabled interrupt pending, a step reads nothing and costs 4, by which the display advances. -/
def Obligations.HaltedTick : Prop :=
  ∀ s : State,
    s.stop = false → s.fault = none → s.halted = true → s.ie.extractLsb' 0 5 &&& s.iflag = 0 →
    ∃ u, u = State.advance 4 { s with cycles := s.cycles + 4 } ∧
      step s = .next { u with frameTotal := u.frameTotal + 4 } ∧
      u.regs = s.regs ∧ u.mem = s.mem ∧ u.halted = true ∧ u.ime = s.ime ∧ u.ie = s.ie

/-- R553: with an enabled interrupt pending a halted core wakes and the same step goes on as an ordinary step: it answers what it would answer had
the core not been halted; IME is not consulted and the wake itself changes nothing else. That a step which faults answers a next state is the
model's choice (log entry 3), and that it leaves `halted` set, by R702, too (log entry 21). -/
def Obligations.WakeFromHalt : Prop :=
  ∀ s : State,
    s.halted = true → s.ie.extractLsb' 0 5 &&& s.iflag ≠ 0 → s.stop = false → s.fault = none →
    s.idles = false ∧
    ∃ t, step { s with halted := false } = .next t ∧ step s = .next (if t.fault = none then t else { t with halted := true })

/-- R702: the step that dispatches an illegal opcode, or STOP where STOP_MODE is `fault`, changes the pc and the fault and nothing else, `halted`
included where the step began by waking, and the display is not advanced for it; R703: a faulted machine has no next state. The model's choices: that
the faulting step answers the faulted state as a next state (log entry 3), that `halted` is as before a waking step (log entry 21), and that a set
stop flag is tested first (log entry 4). -/
def Obligations.FaultIsPreciseAndSticky : Prop :=
  ∀ s : State,
    (∀ op : Byte, op ∈ ([0xD3, 0xDB, 0xDD, 0xE3, 0xE4, 0xEB, 0xEC, 0xED, 0xF4, 0xFC, 0xFD] : List Byte) ∨ op = 0x10 ∧ s.params.stopMode = .fault →
      s.stop = false → s.fault = none → s.idles = false → s.readByte s.regs.pc = op →
      let t := { s with
        regs := { s.regs with pc := s.regs.pc + 1 }
        fault := some (.illegalOpcode op s.regs.pc) }
      step s = .next t ∧ step t = .fault (.illegalOpcode op s.regs.pc)) ∧
    (∀ f, s.fault = some f → step s = if s.stop then .refused .stopped else .fault f) ∧
    (s.stop = true → step s = .refused .stopped)

/-! ## The whole instruction set -/

/-- Every instruction of every state completes; only an illegal opcode or STOP records a fault (R700); EI, RETI and DI alone change IME (10_state.md R37);
HALT alone sets `halted` and no instruction clears it (R38); no instruction moves the display, the driver, the framebuffer, the host's flag, the image
(R112), the host's place in the launch (log entry 12) or the parameters (log entry 2). That an illegal opcode or STOP answers a next state is the
model's choice (log entry 3). -/
def Obligations.EveryInstructionCompletes : Prop :=
  ∀ (i : Instr) (s : State), ∃ t, exec i s = .next t ∧
    (t.fault = s.fault ∨
      ((∃ k, i = Instr.illegal k) ∨ (∃ n, i = .stop n) ∧ s.params.stopMode = .fault) ∧
        t.fault = some (.illegalOpcode ((encode i).headD 0) s.regs.pc) ∧ t.cycles = s.cycles) ∧
    (t.ime = if i = .ei ∨ i = .reti then true else if i = .di then false else s.ime) ∧
    (t.halted = if i = .halt then true else s.halted) ∧
    t.cart = s.cart ∧ t.ly = s.ly ∧ t.dot = s.dot ∧ t.framebuffer = s.framebuffer ∧ t.frameTotal = s.frameTotal ∧
    t.stop = s.stop ∧ t.launch = s.launch ∧ t.params = s.params

/-- The cost of every instruction is its row's `cycles`, or, where the row has a second cost and nothing but the pc moved, its `cycles_not_taken`
(30_encoding.md section 4). -/
def Obligations.CostsFollowTable : Prop :=
  ∀ (i : Instr) (s t : State),
    i.wf = true → s.fault = none → s.params.bitHlCost = .source → exec i s = .next t → t.fault = none →
    ∃ cost, t.cycles = s.cycles + cost ∧ 4 ≤ cost ∧ cost ≤ 24 ∧
      (i.row.cycles = some cost ∨
        i.row.notTaken = some cost ∧ t = { s with
          regs := { s.regs with pc := s.regs.pc + BitVec.ofNat 16 i.row.length }
          cycles := s.cycles + cost })

/-- Every instruction writes the flags as its row's four letters say (00_scope.md section 5, the `flags_ZNHC` column), and leaves the low nibble of F
zero. -/
def Obligations.FlagsFollowTable : Prop :=
  ∀ (i : Instr) (s t : State),
    i.wf = true → exec i s = .next t →
    flagHolds i.row.z s.regs.zf t.regs.zf ∧ flagHolds i.row.n s.regs.nf t.regs.nf ∧
    flagHolds i.row.h s.regs.hf t.regs.hf ∧ flagHolds i.row.c s.regs.cf t.regs.cf ∧
    (s.regs.f &&& 0x0F = 0 → t.regs.f &&& 0x0F = 0)

/-- Every byte an instruction does not store to reads as before: for each address `b` that no address stored to may affect. -/
def Obligations.MemoryFrame : Prop :=
  ∀ (i : Instr) (s t : State) (b : Word), exec i s = .next t →
    (∀ a ∈ storesOf i s, ¬ mayAffect a b) → t.readByte b = s.readByte b

/-- No step changes the image or its kind (20_memory.md R112), the parameters (log entry 2), the stop flag or the host's launch (log entry 12); under Direct no step changes the banking (R115). -/
def Obligations.StepKeepsCartridge : Prop :=
  ∀ s t : State, step s = .next t →
    t.cart = s.cart ∧ t.params = s.params ∧ t.stop = s.stop ∧ t.launch = s.launch ∧ (s.cart.kind = .direct → t.bank = s.bank)

/-- Every completed step adds its cost, at least 4 and at most 24, to `cycles` and to the driver's total alike; a faulting step adds none
(60_exceptions.md section 2, 70_reset_and_hazards.md section 4). -/
def Obligations.StepCost : Prop :=
  ∀ s t : State, step s = .next t →
    ∃ cost, t.cycles = s.cycles + cost ∧ t.frameTotal = s.frameTotal + cost ∧
      (t.fault = none → 4 ≤ cost ∧ cost ≤ 24) ∧ (t.fault ≠ none → cost = 0)

/-! ## Memory (20_memory.md) -/

/-- R119, R120, R122 VRAM, WRAM, HRAM, OAM, and R124, R131 the plain bytes of the I/O block: a write stores the byte, reads back, and changes nothing else;
R130 the button byte, which the host writes too; R121 the echo is the WRAM byte 0x2000 below; R123 the unusable bytes read the parameter UNUSABLE_READ, 0x00 by default, and discard writes. -/
def Obligations.PlainStorage : Prop :=
  ∀ (s : State) (a : Word) (v : Byte),
    let n := a.toNat
    (0x8000 ≤ n ∧ n < 0xA000 ∨ 0xC000 ≤ n ∧ n < 0xE000 ∨ 0xFE00 ≤ n ∧ n < 0xFEA0 ∨ 0xFF80 ≤ n ∧ n < 0xFFFF ∨
        0xFF00 < n ∧ n < 0xFF80 ∧ n ≠ 0xFF0F ∧ (n < 0xFF40 ∨ n = 0xFF46 ∨ 0xFF4B < n) →
      (s.writeByte a v).readByte a = v ∧
      ∃ m, s.writeByte a v = { s with mem := m } ∧ ∀ k, k ≠ n → m.read k = s.mem.read k) ∧
    (s.readByte 0xFF00 = s.p1 ∧ s.writeByte 0xFF00 v = { s with p1 := v } ∧ s.setButtons v = { s with p1 := v }) ∧
    (0xE000 ≤ n ∧ n < 0xFE00 →
      s.readByte a = s.readByte (a - 0x2000) ∧ s.writeByte a v = s.writeByte (a - 0x2000) v) ∧
    (0xFEA0 ≤ n ∧ n < 0xFF00 → s.readByte a = s.params.unusableRead ∧ s.writeByte a v = s) ∧
    Config.Params.default.unusableRead = 0x00

/-- R105, R106, R107, R114, R118: what a read of the ROM window answers, with the parameter OPEN_BUS, 0xFF by default, where there is no image; R108 to R111: the four MBC1 control windows; R115: Direct discards the write. -/
def Obligations.RomWindow : Prop :=
  ∀ (s : State) (a : Word) (v : Byte), a.toNat < 0x8000 →
    let n := a.toNat
    let offset := match s.cart.kind with
      | .direct => n
      | .mbc1 =>
        if n < 0x4000 then (if s.bank.mode = 1 then s.bank.upper.toNat <<< 5 else 0) * 0x4000 + n
        else (if s.bank.mode = 0 then s.bank.upper.toNat <<< 5 ||| s.bank.romBank.toNat else s.bank.romBank.toNat) * 0x4000
          + (n - 0x4000)
    Config.Params.default.openBus = 0xFF ∧
    (s.readByte a = if s.cart.size = 0 then s.params.openBus else s.cart.cells.read (offset % s.cart.size)) ∧
    s.writeByte a v = match s.cart.kind with
      | .direct => s
      | .mbc1 => { s with bank :=
          if n < 0x2000 then { s.bank with ramEnable := v &&& 0x0F = 0x0A }
          else if n < 0x4000 then { s.bank with romBank := if v &&& 0x1F = 0 then 1 else v.extractLsb' 0 5 }
          else if n < 0x6000 then { s.bank with upper := v.extractLsb' 0 2 }
          else { s.bank with mode := v.extractLsb' 0 1 } }

/-- R113 and R116: external RAM answers while the latch is set, and always under Direct; else reads are the parameter OPEN_BUS and writes are
discarded. -/
def Obligations.ExternalRam : Prop :=
  ∀ (s : State) (a : Word) (v : Byte), 0xA000 ≤ a.toNat → a.toNat < 0xC000 →
    if s.cart.kind = .direct ∨ s.bank.ramEnable = true then
      (s.writeByte a v).readByte a = v ∧
      ∃ m, s.writeByte a v = { s with mem := m } ∧ ∀ k, k ≠ a.toNat → m.read k = s.mem.read k
    else s.readByte a = s.params.openBus ∧ s.writeByte a v = s

/-- R125 IF, R126 IE, R127 the display registers, R128 STAT with the mode of R721 and its number of R727, R129 LY: what a read answers and what a write
stores. -/
def Obligations.IoRegisters : Prop :=
  ∀ (s : State) (v : Byte),
    (s.readByte 0xFF0F = 0xE0 ||| s.iflag.setWidth 8 ∧ s.writeByte 0xFF0F v = { s with iflag := v.extractLsb' 0 5 }) ∧
    (s.readByte 0xFFFF = s.ie ∧ s.writeByte 0xFFFF v = { s with ie := v }) ∧
    (s.readByte 0xFF41 = 0x80 ||| (s.lcd.statSel.setWidth 8 <<< 3) |||
        ((if BitVec.ofNat 8 s.ly = s.lcd.lyc then 1#8 else 0#8) <<< 2) |||
        (if 144 ≤ s.ly then 1#8 else if s.dot < 80 then 2#8 else if s.dot < 252 then 3#8 else 0#8) ∧
      s.writeByte 0xFF41 v = { s with lcd := { s.lcd with statSel := v.extractLsb' 3 4 } }) ∧
    (s.readByte 0xFF44 = BitVec.ofNat 8 s.ly ∧ s.writeByte 0xFF44 v = s) ∧
    (s.readByte 0xFF40 = s.lcd.lcdc ∧ s.writeByte 0xFF40 v = { s with lcd := { s.lcd with lcdc := v } }) ∧
    (s.readByte 0xFF42 = s.lcd.scy ∧ s.writeByte 0xFF42 v = { s with lcd := { s.lcd with scy := v } }) ∧
    (s.readByte 0xFF43 = s.lcd.scx ∧ s.writeByte 0xFF43 v = { s with lcd := { s.lcd with scx := v } }) ∧
    (s.readByte 0xFF45 = s.lcd.lyc ∧ s.writeByte 0xFF45 v = { s with lcd := { s.lcd with lyc := v } }) ∧
    (s.readByte 0xFF47 = s.lcd.bgp ∧ s.writeByte 0xFF47 v = { s with lcd := { s.lcd with bgp := v } }) ∧
    (s.readByte 0xFF48 = s.lcd.obp0 ∧ s.writeByte 0xFF48 v = { s with lcd := { s.lcd with obp0 := v } }) ∧
    (s.readByte 0xFF49 = s.lcd.obp1 ∧ s.writeByte 0xFF49 v = { s with lcd := { s.lcd with obp1 := v } }) ∧
    (s.readByte 0xFF4A = s.lcd.wy ∧ s.writeByte 0xFF4A v = { s with lcd := { s.lcd with wy := v } }) ∧
    (s.readByte 0xFF4B = s.lcd.wx ∧ s.writeByte 0xFF4B v = { s with lcd := { s.lcd with wx := v } })

/-- R132, R133, R134: the 16-bit accessors, little-endian, wrapping at 0xFFFF. -/
def Obligations.WordAccess : Prop :=
  ∀ (s : State) (a v : Word),
    s.readWord a = (s.readByte a).setWidth 16 ||| (s.readByte (BitVec.ofNat 16 ((a.toNat + 1) % 65536))).setWidth 16 <<< 8 ∧
    s.writeWord a v =
      (s.writeByte a (v.extractLsb' 0 8)).writeByte (BitVec.ofNat 16 ((a.toNat + 1) % 65536)) (v.extractLsb' 8 8) ∧
    s.readWord 0xFFFF = s.readByte 0x0000 ++ s.readByte 0xFFFF

/-! ## The display (60_exceptions.md) -/

/-- R722: `advance(c)` is c unit ticks in order; R723, R724: what a unit tick does. So `advance` changes `ly`, `dot`, IF bit 0 and the framebuffer only. -/
def Obligations.AdvanceInTicks : Prop :=
  ∀ (m n : Nat) (s : State),
    State.advance 0 s = s ∧
    State.advance (m + n) s = State.advance n (State.advance m s) ∧
    State.advance 1 s =
      (if s.dot + 1 = 456 then
        let ly := (s.ly + 1) % 154
        { s with dot := 0, ly := ly, iflag := if ly = 144 then s.iflag ||| 0x01 else s.iflag }
      else if s.ly < 144 ∧ s.dot + 1 = 80 then
        { s with dot := s.dot + 1, framebuffer := s.framebuffer.set s.ly s.scanline }
      else { s with dot := s.dot + 1 }) ∧
    ∃ (ly dot : Nat) (on : Bool) (fb : List (List Shade)),
      State.advance m s = { s with ly := ly, dot := dot, framebuffer := fb, iflag := s.iflag ||| (if on then 1 else 0) }

/-- The display's position is counted modulo 70,224 ticks, so that a frame of 456 × 154 ticks leads back to the same line and dot (R726's "A full frame
always consumes exactly 70,224 cycles", which the spec derives from R723). -/
def Obligations.FrameLength : Prop :=
  ∀ (c : Nat) (s : State), s.ly < 154 → s.dot < 456 →
    456 * (State.advance c s).ly + (State.advance c s).dot = (456 * s.ly + s.dot + c) % 70224 ∧
    (State.advance c s).ly < 154 ∧ (State.advance c s).dot < 456

/-- R725: IF bit 0 is set exactly by the tick at which `ly` becomes 144, which is position 65,664 of the frame; the display requests nothing else. -/
def Obligations.VblankRequest : Prop :=
  ∀ (c : Nat) (s : State), s.ly < 154 → s.dot < 456 →
    ((State.advance c s).iflag.getLsbD 0 = true ↔
      s.iflag.getLsbD 0 = true ∨ ∃ k, 1 ≤ k ∧ k ≤ c ∧ (456 * s.ly + s.dot + k) % 70224 = 144 * 456) ∧
    ∀ j, 1 ≤ j → (State.advance c s).iflag.getLsbD j = s.iflag.getLsbD j

/-- R724, R729: over a whole frame each of the 144 rows is overwritten once, by the row rendered from the memory and the registers, which `advance`
itself does not change. -/
def Obligations.WholeFrameRendered : Prop :=
  ∀ s : State, s.ly = 0 → s.dot = 0 → s.framebuffer.length = 144 →
    (State.advance 70224 s).framebuffer = (List.range 144).map fun l => State.scanline { s with ly := l }

/-- R729, R736, R737, R739: a row is 160 shades, all 0 where LCDC bit 7 is 0; else each is the winning sprite's through its palette, or the background's
through BGP where there is no winning sprite, where the sprite's priority bit gives way to a background index other than 0, or where sprites are off. -/
def Obligations.RowShades : Prop :=
  ∀ (s : State) (x : Nat), x < 160 →
    let lcdc := s.lcd.lcdc
    let h := if lcdc.getLsbD 2 then 16 else 8
    let shade (palette : Byte) (index : Nat) : Shade := (palette >>> (2 * index)).extractLsb' 0 2
    s.scanline.length = 160 ∧
    s.scanline[x]? = some (
      if lcdc.getLsbD 7 = false then 0
      else if lcdc.getLsbD 1 = false then shade s.lcd.bgp (s.bgIndex x)
      else match winningSprite s.mem s.lineSprites s.ly h x with
        | none => shade s.lcd.bgp (s.bgIndex x)
        | some (o, index) =>
          if o.attr.getLsbD 7 = true ∧ s.bgIndex x ≠ 0 then shade s.lcd.bgp (s.bgIndex x)
          else if o.attr.getLsbD 4 then shade s.lcd.obp1 index else shade s.lcd.obp0 index)

/-- R730, R732, R738: the background or window colour index at a column; R731: a tile's pixel. -/
def Obligations.BackgroundIndex : Prop :=
  ∀ (s : State) (x : Nat),
    let lcdc := s.lcd.lcdc
    let tile (map cx cy : Nat) : Nat :=
      let index := s.mem.read (map + (cy >>> 3) * 32 + (cx >>> 3))
      let base : Nat := if lcdc.getLsbD 4 then 0x8000 + 16 * index.toNat else ((0x9000 : Int) + 16 * index.toInt).toNat
      let lo := s.mem.read (base + 2 * (cy % 8))
      let hi := s.mem.read (base + 2 * (cy % 8) + 1)
      ((hi >>> (7 - cx % 8)).toNat % 2) <<< 1 ||| (lo >>> (7 - cx % 8)).toNat % 2
    s.bgIndex x =
      if lcdc.getLsbD 0 = false then 0
      else if lcdc.getLsbD 5 = true ∧ s.ly ≥ s.lcd.wy.toNat ∧ x + 7 ≥ s.lcd.wx.toNat then
        tile (if lcdc.getLsbD 6 then 0x9C00 else 0x9800) (x + 7 - s.lcd.wx.toNat) (s.ly - s.lcd.wy.toNat)
      else
        tile (if lcdc.getLsbD 3 then 0x9C00 else 0x9800) ((x + s.lcd.scx.toNat) % 256) ((s.ly + s.lcd.scy.toNat) % 256)

/-- R733: entry i of OAM is at 0xFE00 + 4 i; a line's sprites are the first ten on the line, in index order; R734: the columns a sprite covers, its
colour index at a column it covers, with the flips, the choice of tile and the sprite addressing of R731, and that index 0 is transparent. -/
def Obligations.SpriteSelection : Prop :=
  ∀ (s : State) (o : Sprite) (i x : Nat),
    let h : Nat := if s.lcd.lcdc.getLsbD 2 then 16 else 8
    oamEntry s.mem i =
      ⟨(s.mem.read (0xFE00 + 4 * i)).toNat, (s.mem.read (0xFE00 + 4 * i + 1)).toNat, s.mem.read (0xFE00 + 4 * i + 2),
        s.mem.read (0xFE00 + 4 * i + 3)⟩ ∧
    s.lineSprites = (((List.range 40).map (oamEntry s.mem)).filter fun o =>
      decide ((o.y : Int) - 16 ≤ s.ly ∧ (s.ly : Int) < o.y - 16 + h)).take 10 ∧
    (o.covers x = true ↔ (o.x : Int) - 8 ≤ x ∧ x < o.x) ∧
    ((o.y : Int) - 16 ≤ s.ly → (s.ly : Int) < o.y - 16 + h → (o.x : Int) - 8 ≤ x → x < o.x →
      let row0 : Int := s.ly - (o.y - 16)
      let row : Nat := (if o.attr.getLsbD 6 then h - 1 - row0 else row0).toNat
      let tile : Byte := if h = 16 then (o.tile &&& 0xFE) ||| BitVec.ofNat 8 (row >>> 3) else o.tile
      let col0 : Int := x - (o.x - 8)
      let col : Nat := (if o.attr.getLsbD 5 then 7 - col0 else col0).toNat
      let line : Nat := 0x8000 + 16 * tile.toNat + 2 * (row &&& 7)
      o.index s.mem s.ly h x =
          ((s.mem.read (line + 1) >>> (7 - col)).toNat &&& 1) <<< 1 ||| ((s.mem.read line >>> (7 - col)).toNat &&& 1) ∧
        (winningSprite s.mem [o] s.ly h x = none ↔ o.index s.mem s.ly h x = 0))

/-- R735: among the covering sprites that are not transparent at the column, the winning sprite has the least X, and of those the least index; there is
none exactly where every covering sprite is transparent. -/
def Obligations.SpritePriority : Prop :=
  ∀ (m : Memory) (sprites : List Sprite) (ly h x : Nat),
    let shows (p : Sprite) : Prop := p.covers x = true ∧ p.index m ly h x ≠ 0
    match winningSprite m sprites ly h x with
    | none => ∀ p ∈ sprites, ¬ shows p
    | some (o, index) => shows o ∧ index = o.index m ly h x ∧
      ∃ before after, sprites = before ++ o :: after ∧
        (∀ p ∈ before, shows p → o.x < p.x) ∧ ∀ p ∈ after, shows p → o.x ≤ p.x

/-! ## The driver and the host (60_exceptions.md, 20_memory.md) -/

/-- R750, R751, R752, R753, R756 from any state that meets the invariant and under any moves of the host between the steps: `runFrame` takes some
number n of steps, each from a total below the target and from a state without a fault, and returns the state after them. A frame ends at the first
step boundary at or past the next multiple of 70,224, at most 23 cycles past it, with `ly = 0` and `dot ≤ 23` (R755, which the spec derives); a fault is
returned with its payload and the total of the completed steps, and every later call returns the same while the host leaves the stop flag clear;
`Stopped` comes from the stop flag alone, and comes wherever the moves before a step leave it set; its state is intact and its target is that of the
call that resumes it. R751, R759: where k calls all return a frame, the state observed at the k-th return is at most 23 cycles past the k-th boundary.
The model's choices: the host's moves are a schedule that `runFrame` takes (log entry 20), and its call is recorded in `launch` (log entry 12). -/
def Obligations.RunFrameReturns : Prop :=
  ∀ (s : State) (schedule : Schedule), s.Inv →
    let start := { s with launch := .running }
    let target := (s.frameTotal / 70224 + 1) * 70224
    (∃ (run : FrameRun) (n : Nat) (u : State), runFrame schedule s = some run ∧ run.state.Inv ∧
      hostedRun n schedule start = .next u ∧
      (∀ (m : Nat) (v : State), m < n → hostedRun m schedule start = .next v → v.frameTotal < target ∧ v.fault = none) ∧
      match run.result with
      | .frame fb total =>
        run.state = u ∧ fb = u.framebuffer ∧ total = u.frameTotal ∧ target ≤ total ∧ total ≤ target + 23 ∧ u.ly = 0 ∧ u.dot ≤ 23 ∧
          u.fault = none
      | .faulted f total =>
        run.state = (if n = 0 then u.hosted (schedule.getD 0 []) else u) ∧ u.fault = some f ∧ total = u.frameTotal ∧ total < target ∧
          ∀ later : Schedule, (run.state.hosted (later.getD 0 [])).stop = false →
            runFrame later run.state =
              some ⟨.faulted f total, run.state.replies (later.getD 0 []), run.state.hosted (later.getD 0 [])⟩
      | .stopped total =>
        run.state = u.hosted (schedule.getD n []) ∧ run.state.stop = true ∧ total = u.frameTotal ∧ total < target ∧
          (total / 70224 + 1) * 70224 = target) ∧
    (∀ (n : Nat) (u : State), hostedRun n schedule start = .next u → u.frameTotal < target → (n = 0 ∨ u.fault = none) →
      (u.hosted (schedule.getD n [])).stop = true →
      ∃ run, runFrame schedule s = some run ∧ run.result = .stopped u.frameTotal ∧ run.state = u.hosted (schedule.getD n [])) ∧
    ∀ (schedules : List Schedule) (t : State), schedules ≠ [] → observedAt schedules s = some t →
      let boundary := (s.frameTotal / 70224 + schedules.length) * 70224
      boundary ≤ t.frameTotal ∧ t.frameTotal ≤ boundary + 23 ∧ t.ly = 0 ∧ t.dot ≤ 23 ∧ t.fault = none ∧ t.stop = false

/-- R143, R117, R144: `loadGame` before the first `runFrame` installs the image, decides its kind from byte 0x0147, resets the banking, loads external
RAM from a save of exactly 8,192 bytes and from no other, and changes nothing else; R145: storing the save gives the loaded bytes back. R756, R144:
load save is accepted between `loadGame` and the first `runFrame`, and does as much for a save offered then. The model's choices: what tells the first
`runFrame`, and the names of the refusals (log entry 12), and that external RAM keeps what it held without an accepted save (log entry 13). -/
def Obligations.LoadGame : Prop :=
  ∀ (data : List Byte) (save : Option (List Byte)) (s : State),
    (s.launch = .running → loadGame data save s = .refused .loadWhileRunning ∧
      ∀ bytes, loadSave bytes s = .refused .loadWhileRunning) ∧
    (s.launch = .poweredOn → s.cycles = 0 → s.fault = none → ∀ bytes, loadSave bytes s = .refused .saveBeforeLoad) ∧
    (s.launch = .loaded → s.cycles = 0 → s.fault = none → ∀ bytes, ∃ t, loadSave bytes s = .next t ∧
      { t with mem := s.mem } = s ∧
      if bytes.length = 0x2000 then
        t.storeSave = bytes ∧ ∀ n, n < 0xA000 ∨ 0xC000 ≤ n → t.mem.read n = s.mem.read n
      else t = s) ∧
    (s.launch ≠ .running → s.cycles = 0 → s.fault = none →
    ∃ t, loadGame data save s = .next t ∧ t.launch = .loaded ∧
      t.cart.size = data.length ∧ (∀ i (h : i < data.length), t.cart.cells.read i = data[i]) ∧
      (t.cart.kind = .mbc1 ↔ ∃ h : 0x0147 < data.length, data[0x0147] ∈ ([0x01, 0x02, 0x03] : List Byte)) ∧
      t.bank = { romBank := 1, upper := 0, mode := 0, ramEnable := false } ∧
      { t with cart := s.cart, bank := s.bank, mem := s.mem, launch := s.launch } = s ∧
      (match save with
        | none => t.mem = s.mem
        | some bytes =>
          if bytes.length = 0x2000 then
            t.storeSave = bytes ∧ ∀ n, n < 0xA000 ∨ 0xC000 ≤ n → t.mem.read n = s.mem.read n
          else t.mem = s.mem))

/-- Every operation of the host that changes the state (R756) keeps the invariant: set buttons, set and clear stop, `loadGame`, load save and
`runFrame` under any moves of the host. Each move it may make between two steps, in its place after any others, has its own effect and its one reply:
store save gives back the bytes of external RAM as they stand (R145) and a read of `cycles` the total (R715), and both leave the state as it was; set
buttons writes the button byte (R130), set and clear stop the stop flag (R753), and both give back nothing. So all of them together change those two
fields alone. That the moves are lists taken in their order is the model's form of them (log entry 20). -/
def Obligations.HostKeepsInv : Prop :=
  ∀ (s t : State) (data bytes : List Byte) (save : Option (List Byte)) (v : Byte) (on : Bool) (moves : List HostMove) (schedule : Schedule)
      (run : FrameRun), s.Inv →
    (s.setButtons v).Inv ∧ (s.setStop on).Inv ∧ (loadGame data save s = .next t → t.Inv) ∧ (loadSave bytes s = .next t → t.Inv) ∧
    (runFrame schedule s = some run → run.state.Inv) ∧
    (s.hosted moves).Inv ∧ { s.hosted moves with p1 := s.p1, stop := s.stop } = s ∧ (s.replies moves).length = moves.length ∧
    (s.hosted [] = s ∧ s.replies [] = []) ∧
    (s.hosted (moves ++ [.storeSave]) = s.hosted moves ∧
      s.replies (moves ++ [.storeSave]) = s.replies moves ++ [.save ((List.range 0x2000).map fun i => s.mem.read (0xA000 + i))]) ∧
    (s.hosted (moves ++ [.readCycles]) = s.hosted moves ∧
      s.replies (moves ++ [.readCycles]) = s.replies moves ++ [.cycles s.cycles]) ∧
    (s.hosted (moves ++ [.setButtons v]) = { s.hosted moves with p1 := v } ∧
      s.replies (moves ++ [.setButtons v]) = s.replies moves ++ [.nothing]) ∧
    (s.hosted (moves ++ [.setStop on]) = { s.hosted moves with stop := on } ∧
      s.replies (moves ++ [.setStop on]) = s.replies moves ++ [.nothing])

/-! ## Invariants and reset -/

/-- Every step keeps the invariant: the low nibble of F zero, the memory canonical, romBank never 0, line and dot in range, the framebuffer's shape, the
driver's total equal to the cycle total, and the display in phase with it. -/
def Obligations.StepKeepsInv : Prop :=
  ∀ s t : State, s.Inv → step s = .next t → t.Inv

/-- Every power-on state meets the invariant, whatever the parameters (R7) and the draw RAM_INIT (R805), held canonically; so does the state after
reset, which is the one with the parameters' default values and the all-zero draw (log entries 1 and 2, the model's choice). Before any `loadGame`
there is no image, the kind is Direct and the banking is as R807 gives it, so that external RAM reads back the draw (log entry 6, the model's
choice). -/
def Obligations.ResetInv : Prop :=
  (∀ (params : Config.Params) (ramInit : Memory), ramInit.wf = true →
    (State.powerOn params ramInit).Inv ∧
    (State.powerOn params ramInit).params = params ∧
    (State.powerOn params ramInit).cart.size = 0 ∧
    (State.powerOn params ramInit).cart.kind = .direct ∧
    (∀ a : Word, 0xA000 ≤ a.toNat → a.toNat < 0xC000 → (State.powerOn params ramInit).readByte a = ramInit.read a.toNat) ∧
    (State.powerOn params ramInit).bank = { romBank := 1, upper := 0, mode := 0, ramEnable := false }) ∧
  State.reset = State.powerOn { stopMode := .fault, bitHlCost := .source, openBus := 0xFF, unusableRead := 0x00 } [] ∧
  State.reset.Inv

/-- R800 to R804: the values of power-on, whatever the parameters (R7) and the draw; R805: the RAM regions hold the draw RAM_INIT, and all but external
RAM, whose reads the cartridge gates, read it back; R806: every entry
of the framebuffer is shade 0; R118: with no cartridge every ROM-window read returns OPEN_BUS. -/
def Obligations.ResetValues : Prop :=
  ∀ (params : Config.Params) (ramInit : Memory),
  let s := State.powerOn params ramInit
  s.regs = { a := 0x01, f := 0xB0, b := 0x00, c := 0x13, d := 0x00, e := 0xD8, h := 0x01, l := 0x4D, sp := 0xFFFE, pc := 0x0100 } ∧
  (s.ime = false ∧ s.halted = false ∧ s.fault = none ∧ s.cycles = 0 ∧ s.frameTotal = 0 ∧ s.stop = false) ∧
  (s.readByte 0xFF00 = 0xCF ∧ s.readByte 0xFF0F = 0xE1 ∧ s.readByte 0xFF40 = 0x91 ∧ s.readByte 0xFF41 = 0x86 ∧
    s.readByte 0xFF42 = 0x00 ∧ s.readByte 0xFF43 = 0x00 ∧ s.readByte 0xFF44 = 0x00 ∧ s.readByte 0xFF45 = 0x00 ∧
    s.readByte 0xFF47 = 0xFC ∧ s.readByte 0xFF48 = 0xFF ∧ s.readByte 0xFF49 = 0xFF ∧ s.readByte 0xFF4A = 0x00 ∧
    s.readByte 0xFF4B = 0x00 ∧ s.readByte 0xFFFF = 0x00) ∧
  (∀ a : Word, 0xFF01 ≤ a.toNat → a.toNat < 0xFF80 → a ≠ 0xFF0F → (a.toNat < 0xFF40 ∨ a = 0xFF46 ∨ 0xFF4B < a.toNat) →
    s.readByte a = 0x00) ∧
  (s.ly = 0 ∧ s.dot = 0) ∧
  (∀ n : Nat, 0x8000 ≤ n ∧ n < 0xE000 ∨ 0xFE00 ≤ n ∧ n < 0xFEA0 ∨ 0xFF80 ≤ n ∧ n < 0xFFFF → s.mem.read n = ramInit.read n) ∧
  (∀ a : Word, 0x8000 ≤ a.toNat ∧ a.toNat < 0xA000 ∨ 0xC000 ≤ a.toNat ∧ a.toNat < 0xE000 ∨ 0xFE00 ≤ a.toNat ∧ a.toNat < 0xFEA0 ∨
      0xFF80 ≤ a.toNat ∧ a.toNat < 0xFFFF →
    s.readByte a = ramInit.read a.toNat) ∧
  s.framebuffer = List.replicate 144 (List.replicate 160 0) ∧
  (∀ a : Word, a.toNat < 0x8000 → s.readByte a = params.openBus)

end
end

