-- ==== Sys2Proof/Laws/Memory.lean ====
section
/-! SUPPORT. The laws of a list of cells: read after write, writes elsewhere, and that every memory operation keeps the canonical form. -/

namespace Sys2Proof.Machine

theorem Memory.read_insert_same (m : Memory) (a : Nat) (v : Byte) : (m.insert a v).read a = v := by
  induction m with
  | nil => simp [Memory.insert, Memory.read]
  | cons cell rest ih =>
    obtain ⟨b, w⟩ := cell
    unfold Memory.insert
    split
    · simp [Memory.read]
    · split
      · simp [Memory.read]
      · rename_i h
        simp [Memory.read, h, ih]

theorem Memory.read_insert_other (m : Memory) {a b : Nat} (v : Byte) (h : b ≠ a) : (m.insert a v).read b = m.read b := by
  induction m with
  | nil => simp [Memory.insert, Memory.read, h]
  | cons cell rest ih =>
    obtain ⟨c, w⟩ := cell
    unfold Memory.insert
    split
    · simp [Memory.read, h]
    · split
      · rename_i hac
        subst hac
        simp [Memory.read, h]
      · by_cases hbc : b = c <;> simp [Memory.read, hbc, ih]

theorem Memory.erase_cons (c : Nat) (w : Byte) (rest : Memory) (a : Nat) :
    Memory.erase ((c, w) :: rest) a = if c = a then Memory.erase rest a else (c, w) :: Memory.erase rest a := by
  by_cases h : c = a <;> simp [Memory.erase, h]

theorem Memory.read_erase_same (m : Memory) (a : Nat) : (m.erase a).read a = 0 := by
  induction m with
  | nil => rfl
  | cons cell rest ih =>
    obtain ⟨b, w⟩ := cell
    rw [Memory.erase_cons]
    split
    · exact ih
    · rename_i h
      rw [Memory.read, if_neg (Ne.symm h), ih]

theorem Memory.read_erase_other (m : Memory) {a b : Nat} (h : b ≠ a) : (m.erase a).read b = m.read b := by
  induction m with
  | nil => rfl
  | cons cell rest ih =>
    obtain ⟨c, w⟩ := cell
    rw [Memory.erase_cons]
    split
    · rename_i hca
      rw [ih, Memory.read, if_neg (hca ▸ h)]
    · rw [Memory.read, Memory.read, ih]

/-- A read after a write to the same address gives the byte written. -/
@[simp] theorem Memory.read_write_same (m : Memory) (a : Nat) (v : Byte) : (m.write a v).read a = v := by
  unfold Memory.write
  split
  · rename_i h
    rw [Memory.read_erase_same, h]
  · exact Memory.read_insert_same m a v

/-- A write leaves every other address alone. -/
theorem Memory.read_write_other (m : Memory) {a b : Nat} (v : Byte) (h : b ≠ a) : (m.write a v).read b = m.read b := by
  unfold Memory.write
  split
  · exact Memory.read_erase_other m h
  · exact Memory.read_insert_other m v h

/-- The cells of an insertion. -/
theorem Memory.mem_insert {m : Memory} {a : Nat} {v : Byte} {cell : Host.Cell} (h : cell ∈ m.insert a v) :
    cell = (a, v) ∨ cell ∈ m := by
  induction m with
  | nil => exact .inl (by simpa [Memory.insert] using h)
  | cons head rest ih =>
    obtain ⟨b, w⟩ := head
    unfold Memory.insert at h
    split at h
    · simpa using h
    · split at h
      · rcases List.mem_cons.mp h with h | h
        · exact .inl h
        · exact .inr (List.mem_cons_of_mem _ h)
      · rcases List.mem_cons.mp h with h | h
        · exact .inr (h ▸ List.mem_cons_self ..)
        · exact (ih h).imp id (List.mem_cons_of_mem _)

/-- The cells of a written memory: the one written, or one that was there. -/
theorem Memory.mem_write {m : Memory} {a : Nat} {v : Byte} {cell : Host.Cell} (h : cell ∈ m.write a v) :
    cell = (a, v) ∨ cell ∈ m := by
  unfold Memory.write at h
  split at h
  · exact .inr (List.mem_of_mem_filter h)
  · exact Memory.mem_insert h

theorem Memory.wf_cons (a : Nat) (v : Byte) (rest : Memory) :
    Memory.wf ((a, v) :: rest) = true ↔ v ≠ 0 ∧ (∀ cell ∈ rest, a < cell.1) ∧ Memory.wf rest = true := by
  simp [Memory.wf, and_assoc]

theorem Memory.wf_filter {m : Memory} (p : Host.Cell → Bool) (h : m.wf = true) : Memory.wf (m.filter p) = true := by
  induction m with
  | nil => rfl
  | cons head rest ih =>
    obtain ⟨b, w⟩ := head
    rw [Memory.wf_cons] at h
    rw [List.filter_cons]
    split
    · rw [Memory.wf_cons]
      exact ⟨h.1, fun cell hc => h.2.1 cell (List.mem_of_mem_filter hc), ih h.2.2⟩
    · exact ih h.2.2

theorem Memory.wf_insert {m : Memory} {a : Nat} {v : Byte} (h : m.wf = true) (hv : v ≠ 0) : (m.insert a v).wf = true := by
  induction m with
  | nil => exact (Memory.wf_cons a v []).mpr ⟨hv, by simp, rfl⟩
  | cons head rest ih =>
    obtain ⟨b, w⟩ := head
    have hw := (Memory.wf_cons b w rest).mp h
    unfold Memory.insert
    split
    · rename_i hab
      rw [Memory.wf_cons]
      refine ⟨hv, fun cell hc => ?_, h⟩
      rcases List.mem_cons.mp hc with rfl | hc
      · exact hab
      · exact Nat.lt_trans hab (hw.2.1 cell hc)
    · split
      · rename_i hab
        subst hab
        rw [Memory.wf_cons]
        exact ⟨hv, hw.2.1, hw.2.2⟩
      · rename_i h1 h2
        rw [Memory.wf_cons]
        refine ⟨hw.1, fun cell hc => ?_, ih hw.2.2⟩
        rcases Memory.mem_insert hc with rfl | hc
        · show b < a
          omega
        · exact hw.2.1 cell hc

/-- A write keeps the canonical form. -/
theorem Memory.wf_write {m : Memory} (a : Nat) (v : Byte) (h : m.wf = true) : (m.write a v).wf = true := by
  unfold Memory.write
  split
  · exact Memory.wf_filter _ h
  · rename_i hv
    exact Memory.wf_insert h hv

/-- Writing bytes keeps the canonical form. -/
theorem Memory.wf_writeBytes {m : Memory} (a : Nat) (bytes : List Byte) (h : m.wf = true) :
    (m.writeBytes a bytes).wf = true := by
  induction bytes generalizing m a with
  | nil => exact h
  | cons v rest ih => exact ih (a + 1) (Memory.wf_write a v h)

/-- The memory at reset is canonical. -/
theorem State.reset_mem_wf : State.reset.mem.wf = true := by decide

end Sys2Proof.Machine
end

