-- ==== Sys2Proof/Laws/State.lean ====
section
/-! SUPPORT. One lemma for each field and each update of the state, true by rfl, so that no proof unfolds a record update. -/

namespace Sys2Proof.Machine

@[simp] theorem State.mapRegs_regs (s : State) (change : Regs → Regs) : (s.mapRegs change).regs = change s.regs := rfl
@[simp] theorem State.mapRegs_ime (s : State) (change : Regs → Regs) : (s.mapRegs change).ime = s.ime := rfl
@[simp] theorem State.mapRegs_halted (s : State) (change : Regs → Regs) : (s.mapRegs change).halted = s.halted := rfl
@[simp] theorem State.mapRegs_fault (s : State) (change : Regs → Regs) : (s.mapRegs change).fault = s.fault := rfl
@[simp] theorem State.mapRegs_cycles (s : State) (change : Regs → Regs) : (s.mapRegs change).cycles = s.cycles := rfl
@[simp] theorem State.mapRegs_mem (s : State) (change : Regs → Regs) : (s.mapRegs change).mem = s.mem := rfl
@[simp] theorem State.mapRegs_p1 (s : State) (change : Regs → Regs) : (s.mapRegs change).p1 = s.p1 := rfl
@[simp] theorem State.mapRegs_iflag (s : State) (change : Regs → Regs) : (s.mapRegs change).iflag = s.iflag := rfl
@[simp] theorem State.mapRegs_ie (s : State) (change : Regs → Regs) : (s.mapRegs change).ie = s.ie := rfl
@[simp] theorem State.mapRegs_cart (s : State) (change : Regs → Regs) : (s.mapRegs change).cart = s.cart := rfl
@[simp] theorem State.mapRegs_bank (s : State) (change : Regs → Regs) : (s.mapRegs change).bank = s.bank := rfl
@[simp] theorem State.mapRegs_lcd (s : State) (change : Regs → Regs) : (s.mapRegs change).lcd = s.lcd := rfl
@[simp] theorem State.mapRegs_ly (s : State) (change : Regs → Regs) : (s.mapRegs change).ly = s.ly := rfl
@[simp] theorem State.mapRegs_dot (s : State) (change : Regs → Regs) : (s.mapRegs change).dot = s.dot := rfl
@[simp] theorem State.mapRegs_framebuffer (s : State) (change : Regs → Regs) : (s.mapRegs change).framebuffer = s.framebuffer := rfl
@[simp] theorem State.mapRegs_frameTotal (s : State) (change : Regs → Regs) : (s.mapRegs change).frameTotal = s.frameTotal := rfl
@[simp] theorem State.mapRegs_stop (s : State) (change : Regs → Regs) : (s.mapRegs change).stop = s.stop := rfl
@[simp] theorem State.mapRegs_launch (s : State) (change : Regs → Regs) : (s.mapRegs change).launch = s.launch := rfl
@[simp] theorem State.mapRegs_params (s : State) (change : Regs → Regs) : (s.mapRegs change).params = s.params := rfl

@[simp] theorem State.setReg_regs (s : State) (r : Reg8) (v : Byte) : (s.setReg r v).regs = s.regs.set r v := rfl
@[simp] theorem State.setReg_ime (s : State) (r : Reg8) (v : Byte) : (s.setReg r v).ime = s.ime := rfl
@[simp] theorem State.setReg_halted (s : State) (r : Reg8) (v : Byte) : (s.setReg r v).halted = s.halted := rfl
@[simp] theorem State.setReg_fault (s : State) (r : Reg8) (v : Byte) : (s.setReg r v).fault = s.fault := rfl
@[simp] theorem State.setReg_cycles (s : State) (r : Reg8) (v : Byte) : (s.setReg r v).cycles = s.cycles := rfl
@[simp] theorem State.setReg_mem (s : State) (r : Reg8) (v : Byte) : (s.setReg r v).mem = s.mem := rfl
@[simp] theorem State.setReg_p1 (s : State) (r : Reg8) (v : Byte) : (s.setReg r v).p1 = s.p1 := rfl
@[simp] theorem State.setReg_iflag (s : State) (r : Reg8) (v : Byte) : (s.setReg r v).iflag = s.iflag := rfl
@[simp] theorem State.setReg_ie (s : State) (r : Reg8) (v : Byte) : (s.setReg r v).ie = s.ie := rfl
@[simp] theorem State.setReg_cart (s : State) (r : Reg8) (v : Byte) : (s.setReg r v).cart = s.cart := rfl
@[simp] theorem State.setReg_bank (s : State) (r : Reg8) (v : Byte) : (s.setReg r v).bank = s.bank := rfl
@[simp] theorem State.setReg_lcd (s : State) (r : Reg8) (v : Byte) : (s.setReg r v).lcd = s.lcd := rfl
@[simp] theorem State.setReg_ly (s : State) (r : Reg8) (v : Byte) : (s.setReg r v).ly = s.ly := rfl
@[simp] theorem State.setReg_dot (s : State) (r : Reg8) (v : Byte) : (s.setReg r v).dot = s.dot := rfl
@[simp] theorem State.setReg_framebuffer (s : State) (r : Reg8) (v : Byte) : (s.setReg r v).framebuffer = s.framebuffer := rfl
@[simp] theorem State.setReg_frameTotal (s : State) (r : Reg8) (v : Byte) : (s.setReg r v).frameTotal = s.frameTotal := rfl
@[simp] theorem State.setReg_stop (s : State) (r : Reg8) (v : Byte) : (s.setReg r v).stop = s.stop := rfl
@[simp] theorem State.setReg_launch (s : State) (r : Reg8) (v : Byte) : (s.setReg r v).launch = s.launch := rfl
@[simp] theorem State.setReg_params (s : State) (r : Reg8) (v : Byte) : (s.setReg r v).params = s.params := rfl

@[simp] theorem State.setPc_regs (s : State) (v : Word) : (s.setPc v).regs = { s.regs with pc := v } := rfl
@[simp] theorem State.setPc_ime (s : State) (v : Word) : (s.setPc v).ime = s.ime := rfl
@[simp] theorem State.setPc_halted (s : State) (v : Word) : (s.setPc v).halted = s.halted := rfl
@[simp] theorem State.setPc_fault (s : State) (v : Word) : (s.setPc v).fault = s.fault := rfl
@[simp] theorem State.setPc_cycles (s : State) (v : Word) : (s.setPc v).cycles = s.cycles := rfl
@[simp] theorem State.setPc_mem (s : State) (v : Word) : (s.setPc v).mem = s.mem := rfl
@[simp] theorem State.setPc_p1 (s : State) (v : Word) : (s.setPc v).p1 = s.p1 := rfl
@[simp] theorem State.setPc_iflag (s : State) (v : Word) : (s.setPc v).iflag = s.iflag := rfl
@[simp] theorem State.setPc_ie (s : State) (v : Word) : (s.setPc v).ie = s.ie := rfl
@[simp] theorem State.setPc_cart (s : State) (v : Word) : (s.setPc v).cart = s.cart := rfl
@[simp] theorem State.setPc_bank (s : State) (v : Word) : (s.setPc v).bank = s.bank := rfl
@[simp] theorem State.setPc_lcd (s : State) (v : Word) : (s.setPc v).lcd = s.lcd := rfl
@[simp] theorem State.setPc_ly (s : State) (v : Word) : (s.setPc v).ly = s.ly := rfl
@[simp] theorem State.setPc_dot (s : State) (v : Word) : (s.setPc v).dot = s.dot := rfl
@[simp] theorem State.setPc_framebuffer (s : State) (v : Word) : (s.setPc v).framebuffer = s.framebuffer := rfl
@[simp] theorem State.setPc_frameTotal (s : State) (v : Word) : (s.setPc v).frameTotal = s.frameTotal := rfl
@[simp] theorem State.setPc_stop (s : State) (v : Word) : (s.setPc v).stop = s.stop := rfl
@[simp] theorem State.setPc_launch (s : State) (v : Word) : (s.setPc v).launch = s.launch := rfl
@[simp] theorem State.setPc_params (s : State) (v : Word) : (s.setPc v).params = s.params := rfl

@[simp] theorem State.setSp_regs (s : State) (v : Word) : (s.setSp v).regs = { s.regs with sp := v } := rfl
@[simp] theorem State.setSp_ime (s : State) (v : Word) : (s.setSp v).ime = s.ime := rfl
@[simp] theorem State.setSp_halted (s : State) (v : Word) : (s.setSp v).halted = s.halted := rfl
@[simp] theorem State.setSp_fault (s : State) (v : Word) : (s.setSp v).fault = s.fault := rfl
@[simp] theorem State.setSp_cycles (s : State) (v : Word) : (s.setSp v).cycles = s.cycles := rfl
@[simp] theorem State.setSp_mem (s : State) (v : Word) : (s.setSp v).mem = s.mem := rfl
@[simp] theorem State.setSp_p1 (s : State) (v : Word) : (s.setSp v).p1 = s.p1 := rfl
@[simp] theorem State.setSp_iflag (s : State) (v : Word) : (s.setSp v).iflag = s.iflag := rfl
@[simp] theorem State.setSp_ie (s : State) (v : Word) : (s.setSp v).ie = s.ie := rfl
@[simp] theorem State.setSp_cart (s : State) (v : Word) : (s.setSp v).cart = s.cart := rfl
@[simp] theorem State.setSp_bank (s : State) (v : Word) : (s.setSp v).bank = s.bank := rfl
@[simp] theorem State.setSp_lcd (s : State) (v : Word) : (s.setSp v).lcd = s.lcd := rfl
@[simp] theorem State.setSp_ly (s : State) (v : Word) : (s.setSp v).ly = s.ly := rfl
@[simp] theorem State.setSp_dot (s : State) (v : Word) : (s.setSp v).dot = s.dot := rfl
@[simp] theorem State.setSp_framebuffer (s : State) (v : Word) : (s.setSp v).framebuffer = s.framebuffer := rfl
@[simp] theorem State.setSp_frameTotal (s : State) (v : Word) : (s.setSp v).frameTotal = s.frameTotal := rfl
@[simp] theorem State.setSp_stop (s : State) (v : Word) : (s.setSp v).stop = s.stop := rfl
@[simp] theorem State.setSp_launch (s : State) (v : Word) : (s.setSp v).launch = s.launch := rfl
@[simp] theorem State.setSp_params (s : State) (v : Word) : (s.setSp v).params = s.params := rfl

@[simp] theorem State.setFlags_regs (s : State) (z n h c : Bool) : (s.setFlags z n h c).regs = s.regs.setFlags z n h c := rfl
@[simp] theorem State.setFlags_ime (s : State) (z n h c : Bool) : (s.setFlags z n h c).ime = s.ime := rfl
@[simp] theorem State.setFlags_halted (s : State) (z n h c : Bool) : (s.setFlags z n h c).halted = s.halted := rfl
@[simp] theorem State.setFlags_fault (s : State) (z n h c : Bool) : (s.setFlags z n h c).fault = s.fault := rfl
@[simp] theorem State.setFlags_cycles (s : State) (z n h c : Bool) : (s.setFlags z n h c).cycles = s.cycles := rfl
@[simp] theorem State.setFlags_mem (s : State) (z n h c : Bool) : (s.setFlags z n h c).mem = s.mem := rfl
@[simp] theorem State.setFlags_p1 (s : State) (z n h c : Bool) : (s.setFlags z n h c).p1 = s.p1 := rfl
@[simp] theorem State.setFlags_iflag (s : State) (z n h c : Bool) : (s.setFlags z n h c).iflag = s.iflag := rfl
@[simp] theorem State.setFlags_ie (s : State) (z n h c : Bool) : (s.setFlags z n h c).ie = s.ie := rfl
@[simp] theorem State.setFlags_cart (s : State) (z n h c : Bool) : (s.setFlags z n h c).cart = s.cart := rfl
@[simp] theorem State.setFlags_bank (s : State) (z n h c : Bool) : (s.setFlags z n h c).bank = s.bank := rfl
@[simp] theorem State.setFlags_lcd (s : State) (z n h c : Bool) : (s.setFlags z n h c).lcd = s.lcd := rfl
@[simp] theorem State.setFlags_ly (s : State) (z n h c : Bool) : (s.setFlags z n h c).ly = s.ly := rfl
@[simp] theorem State.setFlags_dot (s : State) (z n h c : Bool) : (s.setFlags z n h c).dot = s.dot := rfl
@[simp] theorem State.setFlags_framebuffer (s : State) (z n h c : Bool) : (s.setFlags z n h c).framebuffer = s.framebuffer := rfl
@[simp] theorem State.setFlags_frameTotal (s : State) (z n h c : Bool) : (s.setFlags z n h c).frameTotal = s.frameTotal := rfl
@[simp] theorem State.setFlags_stop (s : State) (z n h c : Bool) : (s.setFlags z n h c).stop = s.stop := rfl
@[simp] theorem State.setFlags_launch (s : State) (z n h c : Bool) : (s.setFlags z n h c).launch = s.launch := rfl
@[simp] theorem State.setFlags_params (s : State) (z n h c : Bool) : (s.setFlags z n h c).params = s.params := rfl

@[simp] theorem State.putFlags_regs (s : State) (r : Flagged) : (s.putFlags r).regs = s.regs.setFlags r.z r.n r.h r.c := rfl
@[simp] theorem State.putFlags_ime (s : State) (r : Flagged) : (s.putFlags r).ime = s.ime := rfl
@[simp] theorem State.putFlags_halted (s : State) (r : Flagged) : (s.putFlags r).halted = s.halted := rfl
@[simp] theorem State.putFlags_fault (s : State) (r : Flagged) : (s.putFlags r).fault = s.fault := rfl
@[simp] theorem State.putFlags_cycles (s : State) (r : Flagged) : (s.putFlags r).cycles = s.cycles := rfl
@[simp] theorem State.putFlags_mem (s : State) (r : Flagged) : (s.putFlags r).mem = s.mem := rfl
@[simp] theorem State.putFlags_p1 (s : State) (r : Flagged) : (s.putFlags r).p1 = s.p1 := rfl
@[simp] theorem State.putFlags_iflag (s : State) (r : Flagged) : (s.putFlags r).iflag = s.iflag := rfl
@[simp] theorem State.putFlags_ie (s : State) (r : Flagged) : (s.putFlags r).ie = s.ie := rfl
@[simp] theorem State.putFlags_cart (s : State) (r : Flagged) : (s.putFlags r).cart = s.cart := rfl
@[simp] theorem State.putFlags_bank (s : State) (r : Flagged) : (s.putFlags r).bank = s.bank := rfl
@[simp] theorem State.putFlags_lcd (s : State) (r : Flagged) : (s.putFlags r).lcd = s.lcd := rfl
@[simp] theorem State.putFlags_ly (s : State) (r : Flagged) : (s.putFlags r).ly = s.ly := rfl
@[simp] theorem State.putFlags_dot (s : State) (r : Flagged) : (s.putFlags r).dot = s.dot := rfl
@[simp] theorem State.putFlags_framebuffer (s : State) (r : Flagged) : (s.putFlags r).framebuffer = s.framebuffer := rfl
@[simp] theorem State.putFlags_frameTotal (s : State) (r : Flagged) : (s.putFlags r).frameTotal = s.frameTotal := rfl
@[simp] theorem State.putFlags_stop (s : State) (r : Flagged) : (s.putFlags r).stop = s.stop := rfl
@[simp] theorem State.putFlags_launch (s : State) (r : Flagged) : (s.putFlags r).launch = s.launch := rfl
@[simp] theorem State.putFlags_params (s : State) (r : Flagged) : (s.putFlags r).params = s.params := rfl

@[simp] theorem State.skip_regs (s : State) (len : Nat) : (s.skip len).regs = { s.regs with pc := s.regs.pc + BitVec.ofNat 16 len } := rfl
@[simp] theorem State.skip_ime (s : State) (len : Nat) : (s.skip len).ime = s.ime := rfl
@[simp] theorem State.skip_halted (s : State) (len : Nat) : (s.skip len).halted = s.halted := rfl
@[simp] theorem State.skip_fault (s : State) (len : Nat) : (s.skip len).fault = s.fault := rfl
@[simp] theorem State.skip_cycles (s : State) (len : Nat) : (s.skip len).cycles = s.cycles := rfl
@[simp] theorem State.skip_mem (s : State) (len : Nat) : (s.skip len).mem = s.mem := rfl
@[simp] theorem State.skip_p1 (s : State) (len : Nat) : (s.skip len).p1 = s.p1 := rfl
@[simp] theorem State.skip_iflag (s : State) (len : Nat) : (s.skip len).iflag = s.iflag := rfl
@[simp] theorem State.skip_ie (s : State) (len : Nat) : (s.skip len).ie = s.ie := rfl
@[simp] theorem State.skip_cart (s : State) (len : Nat) : (s.skip len).cart = s.cart := rfl
@[simp] theorem State.skip_bank (s : State) (len : Nat) : (s.skip len).bank = s.bank := rfl
@[simp] theorem State.skip_lcd (s : State) (len : Nat) : (s.skip len).lcd = s.lcd := rfl
@[simp] theorem State.skip_ly (s : State) (len : Nat) : (s.skip len).ly = s.ly := rfl
@[simp] theorem State.skip_dot (s : State) (len : Nat) : (s.skip len).dot = s.dot := rfl
@[simp] theorem State.skip_framebuffer (s : State) (len : Nat) : (s.skip len).framebuffer = s.framebuffer := rfl
@[simp] theorem State.skip_frameTotal (s : State) (len : Nat) : (s.skip len).frameTotal = s.frameTotal := rfl
@[simp] theorem State.skip_stop (s : State) (len : Nat) : (s.skip len).stop = s.stop := rfl
@[simp] theorem State.skip_launch (s : State) (len : Nat) : (s.skip len).launch = s.launch := rfl
@[simp] theorem State.skip_params (s : State) (len : Nat) : (s.skip len).params = s.params := rfl

@[simp] theorem State.charge_regs (s : State) (cost : Nat) : (s.charge cost).regs = s.regs := rfl
@[simp] theorem State.charge_ime (s : State) (cost : Nat) : (s.charge cost).ime = s.ime := rfl
@[simp] theorem State.charge_halted (s : State) (cost : Nat) : (s.charge cost).halted = s.halted := rfl
@[simp] theorem State.charge_fault (s : State) (cost : Nat) : (s.charge cost).fault = s.fault := rfl
@[simp] theorem State.charge_cycles (s : State) (cost : Nat) : (s.charge cost).cycles = s.cycles + cost := rfl
@[simp] theorem State.charge_mem (s : State) (cost : Nat) : (s.charge cost).mem = s.mem := rfl
@[simp] theorem State.charge_p1 (s : State) (cost : Nat) : (s.charge cost).p1 = s.p1 := rfl
@[simp] theorem State.charge_iflag (s : State) (cost : Nat) : (s.charge cost).iflag = s.iflag := rfl
@[simp] theorem State.charge_ie (s : State) (cost : Nat) : (s.charge cost).ie = s.ie := rfl
@[simp] theorem State.charge_cart (s : State) (cost : Nat) : (s.charge cost).cart = s.cart := rfl
@[simp] theorem State.charge_bank (s : State) (cost : Nat) : (s.charge cost).bank = s.bank := rfl
@[simp] theorem State.charge_lcd (s : State) (cost : Nat) : (s.charge cost).lcd = s.lcd := rfl
@[simp] theorem State.charge_ly (s : State) (cost : Nat) : (s.charge cost).ly = s.ly := rfl
@[simp] theorem State.charge_dot (s : State) (cost : Nat) : (s.charge cost).dot = s.dot := rfl
@[simp] theorem State.charge_framebuffer (s : State) (cost : Nat) : (s.charge cost).framebuffer = s.framebuffer := rfl
@[simp] theorem State.charge_frameTotal (s : State) (cost : Nat) : (s.charge cost).frameTotal = s.frameTotal := rfl
@[simp] theorem State.charge_stop (s : State) (cost : Nat) : (s.charge cost).stop = s.stop := rfl
@[simp] theorem State.charge_launch (s : State) (cost : Nat) : (s.charge cost).launch = s.launch := rfl
@[simp] theorem State.charge_params (s : State) (cost : Nat) : (s.charge cost).params = s.params := rfl

@[simp] theorem State.store_regs (s : State) (n : Nat) (v : Byte) : (s.store n v).regs = s.regs := rfl
@[simp] theorem State.store_ime (s : State) (n : Nat) (v : Byte) : (s.store n v).ime = s.ime := rfl
@[simp] theorem State.store_halted (s : State) (n : Nat) (v : Byte) : (s.store n v).halted = s.halted := rfl
@[simp] theorem State.store_fault (s : State) (n : Nat) (v : Byte) : (s.store n v).fault = s.fault := rfl
@[simp] theorem State.store_cycles (s : State) (n : Nat) (v : Byte) : (s.store n v).cycles = s.cycles := rfl
@[simp] theorem State.store_mem (s : State) (n : Nat) (v : Byte) : (s.store n v).mem = s.mem.write n v := rfl
@[simp] theorem State.store_p1 (s : State) (n : Nat) (v : Byte) : (s.store n v).p1 = s.p1 := rfl
@[simp] theorem State.store_iflag (s : State) (n : Nat) (v : Byte) : (s.store n v).iflag = s.iflag := rfl
@[simp] theorem State.store_ie (s : State) (n : Nat) (v : Byte) : (s.store n v).ie = s.ie := rfl
@[simp] theorem State.store_cart (s : State) (n : Nat) (v : Byte) : (s.store n v).cart = s.cart := rfl
@[simp] theorem State.store_bank (s : State) (n : Nat) (v : Byte) : (s.store n v).bank = s.bank := rfl
@[simp] theorem State.store_lcd (s : State) (n : Nat) (v : Byte) : (s.store n v).lcd = s.lcd := rfl
@[simp] theorem State.store_ly (s : State) (n : Nat) (v : Byte) : (s.store n v).ly = s.ly := rfl
@[simp] theorem State.store_dot (s : State) (n : Nat) (v : Byte) : (s.store n v).dot = s.dot := rfl
@[simp] theorem State.store_framebuffer (s : State) (n : Nat) (v : Byte) : (s.store n v).framebuffer = s.framebuffer := rfl
@[simp] theorem State.store_frameTotal (s : State) (n : Nat) (v : Byte) : (s.store n v).frameTotal = s.frameTotal := rfl
@[simp] theorem State.store_stop (s : State) (n : Nat) (v : Byte) : (s.store n v).stop = s.stop := rfl
@[simp] theorem State.store_launch (s : State) (n : Nat) (v : Byte) : (s.store n v).launch = s.launch := rfl
@[simp] theorem State.store_params (s : State) (n : Nat) (v : Byte) : (s.store n v).params = s.params := rfl

@[simp] theorem State.requestVblank_regs (s : State) : s.requestVblank.regs = s.regs := rfl
@[simp] theorem State.requestVblank_ime (s : State) : s.requestVblank.ime = s.ime := rfl
@[simp] theorem State.requestVblank_halted (s : State) : s.requestVblank.halted = s.halted := rfl
@[simp] theorem State.requestVblank_fault (s : State) : s.requestVblank.fault = s.fault := rfl
@[simp] theorem State.requestVblank_cycles (s : State) : s.requestVblank.cycles = s.cycles := rfl
@[simp] theorem State.requestVblank_mem (s : State) : s.requestVblank.mem = s.mem := rfl
@[simp] theorem State.requestVblank_p1 (s : State) : s.requestVblank.p1 = s.p1 := rfl
@[simp] theorem State.requestVblank_iflag (s : State) : s.requestVblank.iflag = s.iflag ||| 1 := rfl
@[simp] theorem State.requestVblank_ie (s : State) : s.requestVblank.ie = s.ie := rfl
@[simp] theorem State.requestVblank_cart (s : State) : s.requestVblank.cart = s.cart := rfl
@[simp] theorem State.requestVblank_bank (s : State) : s.requestVblank.bank = s.bank := rfl
@[simp] theorem State.requestVblank_lcd (s : State) : s.requestVblank.lcd = s.lcd := rfl
@[simp] theorem State.requestVblank_ly (s : State) : s.requestVblank.ly = s.ly := rfl
@[simp] theorem State.requestVblank_dot (s : State) : s.requestVblank.dot = s.dot := rfl
@[simp] theorem State.requestVblank_framebuffer (s : State) : s.requestVblank.framebuffer = s.framebuffer := rfl
@[simp] theorem State.requestVblank_frameTotal (s : State) : s.requestVblank.frameTotal = s.frameTotal := rfl
@[simp] theorem State.requestVblank_stop (s : State) : s.requestVblank.stop = s.stop := rfl
@[simp] theorem State.requestVblank_launch (s : State) : s.requestVblank.launch = s.launch := rfl
@[simp] theorem State.requestVblank_params (s : State) : s.requestVblank.params = s.params := rfl

end Sys2Proof.Machine
end

