-- ==== Sys2Proof/Laws/Bus.lean ====
section
/-! SUPPORT. The laws of the bus: what a read looks at, what a write changes and what it leaves, and that a write keeps the parts of the
invariant. -/

namespace Sys2Proof.Machine

/-- Where the storage of a region lies. -/
theorem storageAddress_of_region (n : Nat) :
    match regionOf n with
    | .vram | .eram | .wram | .oam | .hram => storageAddress n = true
    | .echo => storageAddress (n - 0x2000) = true
    | .io => match ioRegOf n with
      | .plain => storageAddress n = true
      | _ => True
    | _ => True := by
  have ram (m : Nat) (h : (0x8000 ≤ m ∧ m < 0xE000) ∨ (0xFE00 ≤ m ∧ m < 0xFEA0) ∨ (0xFF80 ≤ m ∧ m < 0xFFFF)) : storageAddress m = true := by
    simp only [storageAddress, ramAddress, Bool.or_eq_true, Bool.and_eq_true, decide_eq_true_eq]
    exact .inl (by tauto)
  unfold regionOf
  split_ifs
  all_goals first
    | exact trivial
    | exact ram _ (by omega)
    | skip
  dsimp only
  cases hio : ioRegOf n <;> first
    | exact trivial
    | (simp only [storageAddress, hio, Bool.or_eq_true, Bool.and_eq_true, decide_eq_true_eq]
       exact .inr ⟨⟨by omega, by omega⟩, rfl⟩)

section Reads

variable (s : State) (a : Word)

@[simp] theorem State.readByte_mapRegs (change : Regs → Regs) : (s.mapRegs change).readByte a = s.readByte a := rfl

@[simp] theorem State.readByte_setReg (r : Reg8) (v : Byte) : (s.setReg r v).readByte a = s.readByte a := rfl

@[simp] theorem State.readByte_setPc (v : Word) : (s.setPc v).readByte a = s.readByte a := rfl

@[simp] theorem State.readByte_setSp (v : Word) : (s.setSp v).readByte a = s.readByte a := rfl

@[simp] theorem State.readByte_setFlags (z n h c : Bool) : (s.setFlags z n h c).readByte a = s.readByte a := rfl

@[simp] theorem State.readByte_putFlags (r : Flagged) : (s.putFlags r).readByte a = s.readByte a := rfl

@[simp] theorem State.readByte_skip (len : Nat) : (s.skip len).readByte a = s.readByte a := rfl

@[simp] theorem State.readByte_charge (cost : Nat) : (s.charge cost).readByte a = s.readByte a := rfl

/-- A read looks at no register, no flag of the core and no total. -/
theorem State.readByte_core (regs : Regs) (ime halted : Bool) (fault : Option Fault) (cycles : Nat) :
    State.readByte { s with regs := regs, ime := ime, halted := halted, fault := fault, cycles := cycles } a = s.readByte a := rfl

end Reads

section Writes

variable (s : State) (a : Word) (v : Byte)

/-- What a write to the I/O block may change. -/
theorem State.ioWrite_shape (n : Nat) : s.ioWrite n v =
    { s with mem := (s.ioWrite n v).mem, p1 := (s.ioWrite n v).p1, iflag := (s.ioWrite n v).iflag, lcd := (s.ioWrite n v).lcd } := by
  unfold State.ioWrite
  generalize ioRegOf n = r
  cases r <;> rfl

/-- What a write to the ROM window may change: the banking (20_memory.md R112). -/
theorem State.romControl_shape (n : Nat) : s.romControl n v = { s with bank := (s.romControl n v).bank } := by
  unfold State.romControl
  rcases s with ⟨_, _, _, _, _, _, _, _, _, ⟨_, _, kind⟩⟩
  cases kind <;> rfl

/-- What a write may change. -/
theorem State.writeByte_shape : s.writeByte a v =
    { s with
      mem := (s.writeByte a v).mem
      p1 := (s.writeByte a v).p1
      iflag := (s.writeByte a v).iflag
      ie := (s.writeByte a v).ie
      bank := (s.writeByte a v).bank
      lcd := (s.writeByte a v).lcd } := by
  unfold State.writeByte
  dsimp only
  generalize regionOf a.toNat = r
  cases r
  case romLow => dsimp only; rw [State.romControl_shape]
  case romHigh => dsimp only; rw [State.romControl_shape]
  case io => dsimp only; rw [State.ioWrite_shape]
  case eram => dsimp only; split <;> rfl
  all_goals rfl

@[simp] theorem State.writeByte_regs : (s.writeByte a v).regs = s.regs := by rw [State.writeByte_shape]

@[simp] theorem State.writeByte_ime : (s.writeByte a v).ime = s.ime := by rw [State.writeByte_shape]

@[simp] theorem State.writeByte_halted : (s.writeByte a v).halted = s.halted := by rw [State.writeByte_shape]

@[simp] theorem State.writeByte_fault : (s.writeByte a v).fault = s.fault := by rw [State.writeByte_shape]

@[simp] theorem State.writeByte_cycles : (s.writeByte a v).cycles = s.cycles := by rw [State.writeByte_shape]

@[simp] theorem State.writeByte_cart : (s.writeByte a v).cart = s.cart := by rw [State.writeByte_shape]

@[simp] theorem State.writeByte_ly : (s.writeByte a v).ly = s.ly := by rw [State.writeByte_shape]

@[simp] theorem State.writeByte_dot : (s.writeByte a v).dot = s.dot := by rw [State.writeByte_shape]

@[simp] theorem State.writeByte_framebuffer : (s.writeByte a v).framebuffer = s.framebuffer := by rw [State.writeByte_shape]

@[simp] theorem State.writeByte_frameTotal : (s.writeByte a v).frameTotal = s.frameTotal := by rw [State.writeByte_shape]

@[simp] theorem State.writeByte_stop : (s.writeByte a v).stop = s.stop := by rw [State.writeByte_shape]

@[simp] theorem State.writeByte_launch : (s.writeByte a v).launch = s.launch := by rw [State.writeByte_shape]

@[simp] theorem State.writeByte_params : (s.writeByte a v).params = s.params := by rw [State.writeByte_shape]

@[simp] theorem State.writeByte_eramOpen_direct (h : s.cart.kind = .direct) : (s.writeByte a v).eramOpen = true := by
  simp [State.eramOpen, h]

/-- A write does not look at the core's part of the state, nor change it. -/
theorem State.writeByte_core (regs : Regs) (ime halted : Bool) (fault : Option Fault) (cycles : Nat) :
    State.writeByte { s with regs := regs, ime := ime, halted := halted, fault := fault, cycles := cycles } a v =
      { s.writeByte a v with regs := regs, ime := ime, halted := halted, fault := fault, cycles := cycles } := by
  rcases s with ⟨_, _, _, _, _, _, _, _, _, ⟨_, _, kind⟩, ⟨_, _, _, enable⟩, _, _, _, _, _, _, _⟩
  unfold State.writeByte
  dsimp only
  generalize regionOf a.toNat = r
  cases r
  case romLow => cases kind <;> rfl
  case romHigh => cases kind <;> rfl
  case io => dsimp only; unfold State.ioWrite; generalize ioRegOf a.toNat = i; cases i <;> rfl
  case eram => cases kind <;> cases enable <;> rfl
  all_goals rfl

/-- A change of registers and a write commute. -/
theorem State.writeByte_mapRegs (change : Regs → Regs) : (s.mapRegs change).writeByte a v = (s.writeByte a v).mapRegs change := by
  have h := State.writeByte_core s a v (change s.regs) s.ime s.halted s.fault s.cycles
  simp only [State.mapRegs, State.writeByte_regs]
  refine h.trans ?_
  conv_rhs => rw [State.writeByte_shape]
  conv_lhs => rw [State.writeByte_shape]

/-- Counting cycles and a write commute. -/
theorem State.writeByte_charge (cost : Nat) : (s.charge cost).writeByte a v = (s.writeByte a v).charge cost := by
  have h := State.writeByte_core s a v s.regs s.ime s.halted s.fault (s.cycles + cost)
  simp only [State.charge, State.writeByte_cycles]
  refine h.trans ?_
  conv_rhs => rw [State.writeByte_shape]
  conv_lhs => rw [State.writeByte_shape]

/-- A write does not look at where the display is. -/
theorem State.writeByte_skip (len : Nat) : (s.skip len).writeByte a v = (s.writeByte a v).skip len := by
  unfold State.skip State.setPc
  rw [State.writeByte_mapRegs, State.writeByte_regs]

/-- A control write leaves the bank register different from 0 (20_memory.md R109). -/
theorem Banking.control_romBank (bank : Banking) (n : Nat) (h : bank.romBank ≠ 0) : (bank.control n v).romBank ≠ 0 := by
  unfold Banking.control
  split
  · exact h
  · split
    · dsimp only
      split
      · decide
      · assumption
    · split <;> exact h

/-- Every write keeps the bank register different from 0 (20_memory.md R109). -/
theorem State.writeByte_romBank (h : s.bank.romBank ≠ 0) : (s.writeByte a v).bank.romBank ≠ 0 := by
  have control (n : Nat) : (s.romControl n v).bank.romBank ≠ 0 := by
    unfold State.romControl
    split
    · exact Banking.control_romBank v s.bank n h
    · exact h
  unfold State.writeByte
  dsimp only
  generalize regionOf a.toNat = r
  cases r
  case romLow => exact control _
  case romHigh => exact control _
  case io => dsimp only; rw [State.ioWrite_shape]; exact h
  case eram => dsimp only; split <;> exact h
  all_goals exact h

/-- Storing to a storage address keeps the memory canonical. -/
theorem State.store_memOk (n : Nat) (hn : storageAddress n = true) (h : s.MemOk) : (s.store n v).MemOk := by
  refine ⟨Memory.wf_write _ _ h.1, fun cell hc => ?_⟩
  rcases Memory.mem_write hc with h' | h'
  · rw [h']; exact hn
  · exact h.2 _ h'

/-- Every write keeps the memory canonical. -/
theorem State.writeByte_memOk (h : s.MemOk) : (s.writeByte a v).MemOk := by
  unfold State.writeByte
  dsimp only
  have hs := storageAddress_of_region a.toNat
  generalize regionOf a.toNat = r at hs
  cases r
  case romLow => dsimp only; rw [State.romControl_shape]; exact h
  case romHigh => dsimp only; rw [State.romControl_shape]; exact h
  case eram => dsimp only; split; exacts [State.store_memOk s v _ hs h, h]
  case io =>
    dsimp only
    unfold State.ioWrite
    generalize ioRegOf a.toNat = i at hs
    cases i
    case plain => exact State.store_memOk s v _ hs h
    all_goals exact h
  case unusable => exact h
  case ie => exact h
  all_goals exact State.store_memOk s v _ hs h

end Writes

end Sys2Proof.Machine
end

