-- ==== Sys2Proof/Laws/Families.lean ====
section
/-! SUPPORT. `exec` on each family of rows is the family's shared operation, and the case split of the instructions into families. -/

namespace Sys2Proof.Machine

theorem exec_ldRegReg (dst : Reg8) (r : Reg8) (s : State) : exec (Instr.ldRegReg dst r) s = doLdRegReg dst r s := by
  cases dst <;> cases r <;> rfl

theorem exec_ldRegImm (dst : Reg8) (n : Byte) (s : State) : exec (Instr.ldRegImm dst n) s = doLdRegImm dst n s := by
  cases dst <;> rfl

theorem exec_ldRegMem (dst : Reg8) (s : State) : exec (Instr.ldRegMem dst) s = doLdRegMem dst s := by
  cases dst <;> rfl

theorem exec_ldMemReg (r : Reg8) (s : State) : exec (Instr.ldMemReg r) s = doLdMemReg r s := by
  cases r <;> rfl

theorem exec_ldPairImm (p : Pair) (nn : Word) (s : State) : exec (Instr.ldPairImm p nn) s = doLdPairImm p nn s := by
  cases p <;> rfl

theorem exec_push (q : StackPair) (s : State) : exec (Instr.push q) s = doPush q s := by
  cases q <;> rfl

theorem exec_pop (q : StackPair) (s : State) : exec (Instr.pop q) s = doPop q s := by
  cases q <;> rfl

theorem exec_alu (op : AluOp) (x : AluSrc) (s : State) : exec (Instr.alu op x) s = doAlu op x s := by
  cases op <;> rcases x with (_ | _ | _ | _ | _ | _ | _) | _ | _ <;> rfl

theorem exec_incReg (r : Reg8) (s : State) : exec (Instr.incReg r) s = doIncReg r s := by
  cases r <;> rfl

theorem exec_decReg (r : Reg8) (s : State) : exec (Instr.decReg r) s = doDecReg r s := by
  cases r <;> rfl

theorem exec_addHlPair (p : Pair) (s : State) : exec (Instr.addHlPair p) s = doAddHlPair p s := by
  cases p <;> rfl

theorem exec_incPair (p : Pair) (s : State) : exec (Instr.incPair p) s = doIncPair p s := by
  cases p <;> rfl

theorem exec_decPair (p : Pair) (s : State) : exec (Instr.decPair p) s = doDecPair p s := by
  cases p <;> rfl

theorem exec_jpCond (cc : Cond) (nn : Word) (s : State) : exec (Instr.jpCond cc nn) s = doJpCond cc nn s := by
  cases cc <;> rfl

theorem exec_jrCond (cc : Cond) (e : Byte) (s : State) : exec (Instr.jrCond cc e) s = doJrCond cc e s := by
  cases cc <;> rfl

theorem exec_callCond (cc : Cond) (nn : Word) (s : State) : exec (Instr.callCond cc nn) s = doCallCond cc nn s := by
  cases cc <;> rfl

theorem exec_retCond (cc : Cond) (s : State) : exec (Instr.retCond cc) s = doRetCond cc s := by
  cases cc <;> rfl

theorem exec_rst (t : Fin 8) (s : State) : exec (Instr.rst t) s = doRst t s := by
  fin_cases t <;> rfl

theorem exec_illegal (k : IllegalOp) (s : State) : exec (Instr.illegal k) s = raiseIllegal k.code s := by
  cases k <;> rfl

theorem exec_shift (k : ShiftOp) (o : Operand8) (s : State) : exec (Instr.shift k o) s = doShift k o s := by
  cases k <;> rcases o with (_ | _ | _ | _ | _ | _ | _) | _ <;> rfl

theorem exec_bit (b : Fin 8) (o : Operand8) (s : State) : exec (Instr.bit b o) s = doBit b o s := by
  fin_cases b <;> rcases o with (_ | _ | _ | _ | _ | _ | _) | _ <;> rfl

theorem exec_res (b : Fin 8) (o : Operand8) (s : State) : exec (Instr.res b o) s = doRes b o s := by
  fin_cases b <;> rcases o with (_ | _ | _ | _ | _ | _ | _) | _ <;> rfl

theorem exec_set (b : Fin 8) (o : Operand8) (s : State) : exec (Instr.set b o) s = doSet b o s := by
  fin_cases b <;> rcases o with (_ | _ | _ | _ | _ | _ | _) | _ <;> rfl

/-- Every instruction is one of a family or one of the single rows. -/
theorem instr_families {P : Instr → Prop}
    (h_ldRegReg : ∀ (dst : Reg8) (r : Reg8), P (Instr.ldRegReg dst r))
    (h_ldRegImm : ∀ (dst : Reg8) (n : Byte), P (Instr.ldRegImm dst n))
    (h_ldRegMem : ∀ (dst : Reg8), P (Instr.ldRegMem dst))
    (h_ldMemReg : ∀ (r : Reg8), P (Instr.ldMemReg r))
    (h_ldPairImm : ∀ (p : Pair) (nn : Word), P (Instr.ldPairImm p nn))
    (h_push : ∀ (q : StackPair), P (Instr.push q))
    (h_pop : ∀ (q : StackPair), P (Instr.pop q))
    (h_alu : ∀ (op : AluOp) (x : AluSrc), P (Instr.alu op x))
    (h_incReg : ∀ (r : Reg8), P (Instr.incReg r))
    (h_decReg : ∀ (r : Reg8), P (Instr.decReg r))
    (h_addHlPair : ∀ (p : Pair), P (Instr.addHlPair p))
    (h_incPair : ∀ (p : Pair), P (Instr.incPair p))
    (h_decPair : ∀ (p : Pair), P (Instr.decPair p))
    (h_jpCond : ∀ (cc : Cond) (nn : Word), P (Instr.jpCond cc nn))
    (h_jrCond : ∀ (cc : Cond) (e : Byte), P (Instr.jrCond cc e))
    (h_callCond : ∀ (cc : Cond) (nn : Word), P (Instr.callCond cc nn))
    (h_retCond : ∀ (cc : Cond), P (Instr.retCond cc))
    (h_rst : ∀ (t : Fin 8), P (Instr.rst t))
    (h_illegal : ∀ (k : IllegalOp), P (Instr.illegal k))
    (h_shift : ∀ (k : ShiftOp) (o : Operand8), P (Instr.shift k o))
    (h_bit : ∀ (b : Fin 8) (o : Operand8), P (Instr.bit b o))
    (h_res : ∀ (b : Fin 8) (o : Operand8), P (Instr.res b o))
    (h_set : ∀ (b : Fin 8) (o : Operand8), P (Instr.set b o))
    (h_nop : P .nop)
    (h_ldMemBcA : P .ldMemBcA)
    (h_rlca : P .rlca)
    (h_ldMemN16Sp : ∀ nn : Word, P (.ldMemN16Sp nn))
    (h_ldAMemBc : P .ldAMemBc)
    (h_rrca : P .rrca)
    (h_stop : ∀ n : Byte, P (.stop n))
    (h_ldMemDeA : P .ldMemDeA)
    (h_rla : P .rla)
    (h_jrE8 : ∀ e : Byte, P (.jrE8 e))
    (h_ldAMemDe : P .ldAMemDe)
    (h_rra : P .rra)
    (h_ldMemHlIncA : P .ldMemHlIncA)
    (h_daa : P .daa)
    (h_ldAMemHlInc : P .ldAMemHlInc)
    (h_cpl : P .cpl)
    (h_ldMemHlDecA : P .ldMemHlDecA)
    (h_incMemHl : P .incMemHl)
    (h_decMemHl : P .decMemHl)
    (h_ldMemHlN8 : ∀ n : Byte, P (.ldMemHlN8 n))
    (h_scf : P .scf)
    (h_ldAMemHlDec : P .ldAMemHlDec)
    (h_ccf : P .ccf)
    (h_halt : P .halt)
    (h_jpN16 : ∀ nn : Word, P (.jpN16 nn))
    (h_ret : P .ret)
    (h_prefixCb : ∀ cb : Byte, P (.prefixCb cb))
    (h_callN16 : ∀ nn : Word, P (.callN16 nn))
    (h_reti : P .reti)
    (h_ldhMemN8A : ∀ n : Byte, P (.ldhMemN8A n))
    (h_ldMemCA : P .ldMemCA)
    (h_addSpE8 : ∀ e : Byte, P (.addSpE8 e))
    (h_jpHl : P .jpHl)
    (h_ldMemN16A : ∀ nn : Word, P (.ldMemN16A nn))
    (h_ldhAMemN8 : ∀ n : Byte, P (.ldhAMemN8 n))
    (h_ldAMemC : P .ldAMemC)
    (h_di : P .di)
    (h_ldHlSpE8 : ∀ e : Byte, P (.ldHlSpE8 e))
    (h_ldSpHl : P .ldSpHl)
    (h_ldAMemN16 : ∀ nn : Word, P (.ldAMemN16 nn))
    (h_ei : P .ei)
    (i : Instr) : P i := by
  cases i with
  | nop => exact h_nop
  | ldBcN16 nn => exact h_ldPairImm .bc nn
  | ldMemBcA => exact h_ldMemBcA
  | incBc => exact h_incPair .bc
  | incB => exact h_incReg .b
  | decB => exact h_decReg .b
  | ldBN8 n => exact h_ldRegImm .b n
  | rlca => exact h_rlca
  | ldMemN16Sp nn => exact h_ldMemN16Sp nn
  | addHlBc => exact h_addHlPair .bc
  | ldAMemBc => exact h_ldAMemBc
  | decBc => exact h_decPair .bc
  | incC => exact h_incReg .c
  | decC => exact h_decReg .c
  | ldCN8 n => exact h_ldRegImm .c n
  | rrca => exact h_rrca
  | stop n => exact h_stop n
  | ldDeN16 nn => exact h_ldPairImm .de nn
  | ldMemDeA => exact h_ldMemDeA
  | incDe => exact h_incPair .de
  | incD => exact h_incReg .d
  | decD => exact h_decReg .d
  | ldDN8 n => exact h_ldRegImm .d n
  | rla => exact h_rla
  | jrE8 e => exact h_jrE8 e
  | addHlDe => exact h_addHlPair .de
  | ldAMemDe => exact h_ldAMemDe
  | decDe => exact h_decPair .de
  | incE => exact h_incReg .e
  | decE => exact h_decReg .e
  | ldEN8 n => exact h_ldRegImm .e n
  | rra => exact h_rra
  | jrNzE8 e => exact h_jrCond .nz e
  | ldHlN16 nn => exact h_ldPairImm .hl nn
  | ldMemHlIncA => exact h_ldMemHlIncA
  | incHl => exact h_incPair .hl
  | incH => exact h_incReg .h
  | decH => exact h_decReg .h
  | ldHN8 n => exact h_ldRegImm .h n
  | daa => exact h_daa
  | jrZE8 e => exact h_jrCond .z e
  | addHlHl => exact h_addHlPair .hl
  | ldAMemHlInc => exact h_ldAMemHlInc
  | decHl => exact h_decPair .hl
  | incL => exact h_incReg .l
  | decL => exact h_decReg .l
  | ldLN8 n => exact h_ldRegImm .l n
  | cpl => exact h_cpl
  | jrNcE8 e => exact h_jrCond .nc e
  | ldSpN16 nn => exact h_ldPairImm .sp nn
  | ldMemHlDecA => exact h_ldMemHlDecA
  | incSp => exact h_incPair .sp
  | incMemHl => exact h_incMemHl
  | decMemHl => exact h_decMemHl
  | ldMemHlN8 n => exact h_ldMemHlN8 n
  | scf => exact h_scf
  | jrCE8 e => exact h_jrCond .c e
  | addHlSp => exact h_addHlPair .sp
  | ldAMemHlDec => exact h_ldAMemHlDec
  | decSp => exact h_decPair .sp
  | incA => exact h_incReg .a
  | decA => exact h_decReg .a
  | ldAN8 n => exact h_ldRegImm .a n
  | ccf => exact h_ccf
  | ldBB => exact h_ldRegReg .b .b
  | ldBC => exact h_ldRegReg .b .c
  | ldBD => exact h_ldRegReg .b .d
  | ldBE => exact h_ldRegReg .b .e
  | ldBH => exact h_ldRegReg .b .h
  | ldBL => exact h_ldRegReg .b .l
  | ldBMemHl => exact h_ldRegMem .b
  | ldBA => exact h_ldRegReg .b .a
  | ldCB => exact h_ldRegReg .c .b
  | ldCC => exact h_ldRegReg .c .c
  | ldCD => exact h_ldRegReg .c .d
  | ldCE => exact h_ldRegReg .c .e
  | ldCH => exact h_ldRegReg .c .h
  | ldCL => exact h_ldRegReg .c .l
  | ldCMemHl => exact h_ldRegMem .c
  | ldCA => exact h_ldRegReg .c .a
  | ldDB => exact h_ldRegReg .d .b
  | ldDC => exact h_ldRegReg .d .c
  | ldDD => exact h_ldRegReg .d .d
  | ldDE => exact h_ldRegReg .d .e
  | ldDH => exact h_ldRegReg .d .h
  | ldDL => exact h_ldRegReg .d .l
  | ldDMemHl => exact h_ldRegMem .d
  | ldDA => exact h_ldRegReg .d .a
  | ldEB => exact h_ldRegReg .e .b
  | ldEC => exact h_ldRegReg .e .c
  | ldED => exact h_ldRegReg .e .d
  | ldEE => exact h_ldRegReg .e .e
  | ldEH => exact h_ldRegReg .e .h
  | ldEL => exact h_ldRegReg .e .l
  | ldEMemHl => exact h_ldRegMem .e
  | ldEA => exact h_ldRegReg .e .a
  | ldHB => exact h_ldRegReg .h .b
  | ldHC => exact h_ldRegReg .h .c
  | ldHD => exact h_ldRegReg .h .d
  | ldHE => exact h_ldRegReg .h .e
  | ldHH => exact h_ldRegReg .h .h
  | ldHL => exact h_ldRegReg .h .l
  | ldHMemHl => exact h_ldRegMem .h
  | ldHA => exact h_ldRegReg .h .a
  | ldLB => exact h_ldRegReg .l .b
  | ldLC => exact h_ldRegReg .l .c
  | ldLD => exact h_ldRegReg .l .d
  | ldLE => exact h_ldRegReg .l .e
  | ldLH => exact h_ldRegReg .l .h
  | ldLL => exact h_ldRegReg .l .l
  | ldLMemHl => exact h_ldRegMem .l
  | ldLA => exact h_ldRegReg .l .a
  | ldMemHlB => exact h_ldMemReg .b
  | ldMemHlC => exact h_ldMemReg .c
  | ldMemHlD => exact h_ldMemReg .d
  | ldMemHlE => exact h_ldMemReg .e
  | ldMemHlH => exact h_ldMemReg .h
  | ldMemHlL => exact h_ldMemReg .l
  | halt => exact h_halt
  | ldMemHlA => exact h_ldMemReg .a
  | ldAB => exact h_ldRegReg .a .b
  | ldAC => exact h_ldRegReg .a .c
  | ldAD => exact h_ldRegReg .a .d
  | ldAE => exact h_ldRegReg .a .e
  | ldAH => exact h_ldRegReg .a .h
  | ldAL => exact h_ldRegReg .a .l
  | ldAMemHl => exact h_ldRegMem .a
  | ldAA => exact h_ldRegReg .a .a
  | addAB => exact h_alu .add (.reg .b)
  | addAC => exact h_alu .add (.reg .c)
  | addAD => exact h_alu .add (.reg .d)
  | addAE => exact h_alu .add (.reg .e)
  | addAH => exact h_alu .add (.reg .h)
  | addAL => exact h_alu .add (.reg .l)
  | addAMemHl => exact h_alu .add .memHl
  | addAA => exact h_alu .add (.reg .a)
  | adcAB => exact h_alu .adc (.reg .b)
  | adcAC => exact h_alu .adc (.reg .c)
  | adcAD => exact h_alu .adc (.reg .d)
  | adcAE => exact h_alu .adc (.reg .e)
  | adcAH => exact h_alu .adc (.reg .h)
  | adcAL => exact h_alu .adc (.reg .l)
  | adcAMemHl => exact h_alu .adc .memHl
  | adcAA => exact h_alu .adc (.reg .a)
  | subB => exact h_alu .sub (.reg .b)
  | subC => exact h_alu .sub (.reg .c)
  | subD => exact h_alu .sub (.reg .d)
  | subE => exact h_alu .sub (.reg .e)
  | subH => exact h_alu .sub (.reg .h)
  | subL => exact h_alu .sub (.reg .l)
  | subMemHl => exact h_alu .sub .memHl
  | subA => exact h_alu .sub (.reg .a)
  | sbcAB => exact h_alu .sbc (.reg .b)
  | sbcAC => exact h_alu .sbc (.reg .c)
  | sbcAD => exact h_alu .sbc (.reg .d)
  | sbcAE => exact h_alu .sbc (.reg .e)
  | sbcAH => exact h_alu .sbc (.reg .h)
  | sbcAL => exact h_alu .sbc (.reg .l)
  | sbcAMemHl => exact h_alu .sbc .memHl
  | sbcAA => exact h_alu .sbc (.reg .a)
  | andB => exact h_alu .and (.reg .b)
  | andC => exact h_alu .and (.reg .c)
  | andD => exact h_alu .and (.reg .d)
  | andE => exact h_alu .and (.reg .e)
  | andH => exact h_alu .and (.reg .h)
  | andL => exact h_alu .and (.reg .l)
  | andMemHl => exact h_alu .and .memHl
  | andA => exact h_alu .and (.reg .a)
  | xorB => exact h_alu .xor (.reg .b)
  | xorC => exact h_alu .xor (.reg .c)
  | xorD => exact h_alu .xor (.reg .d)
  | xorE => exact h_alu .xor (.reg .e)
  | xorH => exact h_alu .xor (.reg .h)
  | xorL => exact h_alu .xor (.reg .l)
  | xorMemHl => exact h_alu .xor .memHl
  | xorA => exact h_alu .xor (.reg .a)
  | orB => exact h_alu .or (.reg .b)
  | orC => exact h_alu .or (.reg .c)
  | orD => exact h_alu .or (.reg .d)
  | orE => exact h_alu .or (.reg .e)
  | orH => exact h_alu .or (.reg .h)
  | orL => exact h_alu .or (.reg .l)
  | orMemHl => exact h_alu .or .memHl
  | orA => exact h_alu .or (.reg .a)
  | cpB => exact h_alu .cp (.reg .b)
  | cpC => exact h_alu .cp (.reg .c)
  | cpD => exact h_alu .cp (.reg .d)
  | cpE => exact h_alu .cp (.reg .e)
  | cpH => exact h_alu .cp (.reg .h)
  | cpL => exact h_alu .cp (.reg .l)
  | cpMemHl => exact h_alu .cp .memHl
  | cpA => exact h_alu .cp (.reg .a)
  | retNz => exact h_retCond .nz
  | popBc => exact h_pop .bc
  | jpNzN16 nn => exact h_jpCond .nz nn
  | jpN16 nn => exact h_jpN16 nn
  | callNzN16 nn => exact h_callCond .nz nn
  | pushBc => exact h_push .bc
  | addAN8 n => exact h_alu .add (.imm n)
  | rst00 => exact h_rst 0
  | retZ => exact h_retCond .z
  | ret => exact h_ret
  | jpZN16 nn => exact h_jpCond .z nn
  | prefixCb cb => exact h_prefixCb cb
  | callZN16 nn => exact h_callCond .z nn
  | callN16 nn => exact h_callN16 nn
  | adcAN8 n => exact h_alu .adc (.imm n)
  | rst08 => exact h_rst 1
  | retNc => exact h_retCond .nc
  | popDe => exact h_pop .de
  | jpNcN16 nn => exact h_jpCond .nc nn
  | illegalD3 => exact h_illegal .opD3
  | callNcN16 nn => exact h_callCond .nc nn
  | pushDe => exact h_push .de
  | subN8 n => exact h_alu .sub (.imm n)
  | rst10 => exact h_rst 2
  | retC => exact h_retCond .c
  | reti => exact h_reti
  | jpCN16 nn => exact h_jpCond .c nn
  | illegalDB => exact h_illegal .opDB
  | callCN16 nn => exact h_callCond .c nn
  | illegalDD => exact h_illegal .opDD
  | sbcAN8 n => exact h_alu .sbc (.imm n)
  | rst18 => exact h_rst 3
  | ldhMemN8A n => exact h_ldhMemN8A n
  | popHl => exact h_pop .hl
  | ldMemCA => exact h_ldMemCA
  | illegalE3 => exact h_illegal .opE3
  | illegalE4 => exact h_illegal .opE4
  | pushHl => exact h_push .hl
  | andN8 n => exact h_alu .and (.imm n)
  | rst20 => exact h_rst 4
  | addSpE8 e => exact h_addSpE8 e
  | jpHl => exact h_jpHl
  | ldMemN16A nn => exact h_ldMemN16A nn
  | illegalEB => exact h_illegal .opEB
  | illegalEC => exact h_illegal .opEC
  | illegalED => exact h_illegal .opED
  | xorN8 n => exact h_alu .xor (.imm n)
  | rst28 => exact h_rst 5
  | ldhAMemN8 n => exact h_ldhAMemN8 n
  | popAf => exact h_pop .af
  | ldAMemC => exact h_ldAMemC
  | di => exact h_di
  | illegalF4 => exact h_illegal .opF4
  | pushAf => exact h_push .af
  | orN8 n => exact h_alu .or (.imm n)
  | rst30 => exact h_rst 6
  | ldHlSpE8 e => exact h_ldHlSpE8 e
  | ldSpHl => exact h_ldSpHl
  | ldAMemN16 nn => exact h_ldAMemN16 nn
  | ei => exact h_ei
  | illegalFC => exact h_illegal .opFC
  | illegalFD => exact h_illegal .opFD
  | cpN8 n => exact h_alu .cp (.imm n)
  | rst38 => exact h_rst 7
  | rlcB => exact h_shift .rlc (.reg .b)
  | rlcC => exact h_shift .rlc (.reg .c)
  | rlcD => exact h_shift .rlc (.reg .d)
  | rlcE => exact h_shift .rlc (.reg .e)
  | rlcH => exact h_shift .rlc (.reg .h)
  | rlcL => exact h_shift .rlc (.reg .l)
  | rlcMemHl => exact h_shift .rlc .memHl
  | rlcA => exact h_shift .rlc (.reg .a)
  | rrcB => exact h_shift .rrc (.reg .b)
  | rrcC => exact h_shift .rrc (.reg .c)
  | rrcD => exact h_shift .rrc (.reg .d)
  | rrcE => exact h_shift .rrc (.reg .e)
  | rrcH => exact h_shift .rrc (.reg .h)
  | rrcL => exact h_shift .rrc (.reg .l)
  | rrcMemHl => exact h_shift .rrc .memHl
  | rrcA => exact h_shift .rrc (.reg .a)
  | rlB => exact h_shift .rl (.reg .b)
  | rlC => exact h_shift .rl (.reg .c)
  | rlD => exact h_shift .rl (.reg .d)
  | rlE => exact h_shift .rl (.reg .e)
  | rlH => exact h_shift .rl (.reg .h)
  | rlL => exact h_shift .rl (.reg .l)
  | rlMemHl => exact h_shift .rl .memHl
  | rlA => exact h_shift .rl (.reg .a)
  | rrB => exact h_shift .rr (.reg .b)
  | rrC => exact h_shift .rr (.reg .c)
  | rrD => exact h_shift .rr (.reg .d)
  | rrE => exact h_shift .rr (.reg .e)
  | rrH => exact h_shift .rr (.reg .h)
  | rrL => exact h_shift .rr (.reg .l)
  | rrMemHl => exact h_shift .rr .memHl
  | rrA => exact h_shift .rr (.reg .a)
  | slaB => exact h_shift .sla (.reg .b)
  | slaC => exact h_shift .sla (.reg .c)
  | slaD => exact h_shift .sla (.reg .d)
  | slaE => exact h_shift .sla (.reg .e)
  | slaH => exact h_shift .sla (.reg .h)
  | slaL => exact h_shift .sla (.reg .l)
  | slaMemHl => exact h_shift .sla .memHl
  | slaA => exact h_shift .sla (.reg .a)
  | sraB => exact h_shift .sra (.reg .b)
  | sraC => exact h_shift .sra (.reg .c)
  | sraD => exact h_shift .sra (.reg .d)
  | sraE => exact h_shift .sra (.reg .e)
  | sraH => exact h_shift .sra (.reg .h)
  | sraL => exact h_shift .sra (.reg .l)
  | sraMemHl => exact h_shift .sra .memHl
  | sraA => exact h_shift .sra (.reg .a)
  | swapB => exact h_shift .swap (.reg .b)
  | swapC => exact h_shift .swap (.reg .c)
  | swapD => exact h_shift .swap (.reg .d)
  | swapE => exact h_shift .swap (.reg .e)
  | swapH => exact h_shift .swap (.reg .h)
  | swapL => exact h_shift .swap (.reg .l)
  | swapMemHl => exact h_shift .swap .memHl
  | swapA => exact h_shift .swap (.reg .a)
  | srlB => exact h_shift .srl (.reg .b)
  | srlC => exact h_shift .srl (.reg .c)
  | srlD => exact h_shift .srl (.reg .d)
  | srlE => exact h_shift .srl (.reg .e)
  | srlH => exact h_shift .srl (.reg .h)
  | srlL => exact h_shift .srl (.reg .l)
  | srlMemHl => exact h_shift .srl .memHl
  | srlA => exact h_shift .srl (.reg .a)
  | bit0B => exact h_bit 0 (.reg .b)
  | bit0C => exact h_bit 0 (.reg .c)
  | bit0D => exact h_bit 0 (.reg .d)
  | bit0E => exact h_bit 0 (.reg .e)
  | bit0H => exact h_bit 0 (.reg .h)
  | bit0L => exact h_bit 0 (.reg .l)
  | bit0MemHl => exact h_bit 0 .memHl
  | bit0A => exact h_bit 0 (.reg .a)
  | bit1B => exact h_bit 1 (.reg .b)
  | bit1C => exact h_bit 1 (.reg .c)
  | bit1D => exact h_bit 1 (.reg .d)
  | bit1E => exact h_bit 1 (.reg .e)
  | bit1H => exact h_bit 1 (.reg .h)
  | bit1L => exact h_bit 1 (.reg .l)
  | bit1MemHl => exact h_bit 1 .memHl
  | bit1A => exact h_bit 1 (.reg .a)
  | bit2B => exact h_bit 2 (.reg .b)
  | bit2C => exact h_bit 2 (.reg .c)
  | bit2D => exact h_bit 2 (.reg .d)
  | bit2E => exact h_bit 2 (.reg .e)
  | bit2H => exact h_bit 2 (.reg .h)
  | bit2L => exact h_bit 2 (.reg .l)
  | bit2MemHl => exact h_bit 2 .memHl
  | bit2A => exact h_bit 2 (.reg .a)
  | bit3B => exact h_bit 3 (.reg .b)
  | bit3C => exact h_bit 3 (.reg .c)
  | bit3D => exact h_bit 3 (.reg .d)
  | bit3E => exact h_bit 3 (.reg .e)
  | bit3H => exact h_bit 3 (.reg .h)
  | bit3L => exact h_bit 3 (.reg .l)
  | bit3MemHl => exact h_bit 3 .memHl
  | bit3A => exact h_bit 3 (.reg .a)
  | bit4B => exact h_bit 4 (.reg .b)
  | bit4C => exact h_bit 4 (.reg .c)
  | bit4D => exact h_bit 4 (.reg .d)
  | bit4E => exact h_bit 4 (.reg .e)
  | bit4H => exact h_bit 4 (.reg .h)
  | bit4L => exact h_bit 4 (.reg .l)
  | bit4MemHl => exact h_bit 4 .memHl
  | bit4A => exact h_bit 4 (.reg .a)
  | bit5B => exact h_bit 5 (.reg .b)
  | bit5C => exact h_bit 5 (.reg .c)
  | bit5D => exact h_bit 5 (.reg .d)
  | bit5E => exact h_bit 5 (.reg .e)
  | bit5H => exact h_bit 5 (.reg .h)
  | bit5L => exact h_bit 5 (.reg .l)
  | bit5MemHl => exact h_bit 5 .memHl
  | bit5A => exact h_bit 5 (.reg .a)
  | bit6B => exact h_bit 6 (.reg .b)
  | bit6C => exact h_bit 6 (.reg .c)
  | bit6D => exact h_bit 6 (.reg .d)
  | bit6E => exact h_bit 6 (.reg .e)
  | bit6H => exact h_bit 6 (.reg .h)
  | bit6L => exact h_bit 6 (.reg .l)
  | bit6MemHl => exact h_bit 6 .memHl
  | bit6A => exact h_bit 6 (.reg .a)
  | bit7B => exact h_bit 7 (.reg .b)
  | bit7C => exact h_bit 7 (.reg .c)
  | bit7D => exact h_bit 7 (.reg .d)
  | bit7E => exact h_bit 7 (.reg .e)
  | bit7H => exact h_bit 7 (.reg .h)
  | bit7L => exact h_bit 7 (.reg .l)
  | bit7MemHl => exact h_bit 7 .memHl
  | bit7A => exact h_bit 7 (.reg .a)
  | res0B => exact h_res 0 (.reg .b)
  | res0C => exact h_res 0 (.reg .c)
  | res0D => exact h_res 0 (.reg .d)
  | res0E => exact h_res 0 (.reg .e)
  | res0H => exact h_res 0 (.reg .h)
  | res0L => exact h_res 0 (.reg .l)
  | res0MemHl => exact h_res 0 .memHl
  | res0A => exact h_res 0 (.reg .a)
  | res1B => exact h_res 1 (.reg .b)
  | res1C => exact h_res 1 (.reg .c)
  | res1D => exact h_res 1 (.reg .d)
  | res1E => exact h_res 1 (.reg .e)
  | res1H => exact h_res 1 (.reg .h)
  | res1L => exact h_res 1 (.reg .l)
  | res1MemHl => exact h_res 1 .memHl
  | res1A => exact h_res 1 (.reg .a)
  | res2B => exact h_res 2 (.reg .b)
  | res2C => exact h_res 2 (.reg .c)
  | res2D => exact h_res 2 (.reg .d)
  | res2E => exact h_res 2 (.reg .e)
  | res2H => exact h_res 2 (.reg .h)
  | res2L => exact h_res 2 (.reg .l)
  | res2MemHl => exact h_res 2 .memHl
  | res2A => exact h_res 2 (.reg .a)
  | res3B => exact h_res 3 (.reg .b)
  | res3C => exact h_res 3 (.reg .c)
  | res3D => exact h_res 3 (.reg .d)
  | res3E => exact h_res 3 (.reg .e)
  | res3H => exact h_res 3 (.reg .h)
  | res3L => exact h_res 3 (.reg .l)
  | res3MemHl => exact h_res 3 .memHl
  | res3A => exact h_res 3 (.reg .a)
  | res4B => exact h_res 4 (.reg .b)
  | res4C => exact h_res 4 (.reg .c)
  | res4D => exact h_res 4 (.reg .d)
  | res4E => exact h_res 4 (.reg .e)
  | res4H => exact h_res 4 (.reg .h)
  | res4L => exact h_res 4 (.reg .l)
  | res4MemHl => exact h_res 4 .memHl
  | res4A => exact h_res 4 (.reg .a)
  | res5B => exact h_res 5 (.reg .b)
  | res5C => exact h_res 5 (.reg .c)
  | res5D => exact h_res 5 (.reg .d)
  | res5E => exact h_res 5 (.reg .e)
  | res5H => exact h_res 5 (.reg .h)
  | res5L => exact h_res 5 (.reg .l)
  | res5MemHl => exact h_res 5 .memHl
  | res5A => exact h_res 5 (.reg .a)
  | res6B => exact h_res 6 (.reg .b)
  | res6C => exact h_res 6 (.reg .c)
  | res6D => exact h_res 6 (.reg .d)
  | res6E => exact h_res 6 (.reg .e)
  | res6H => exact h_res 6 (.reg .h)
  | res6L => exact h_res 6 (.reg .l)
  | res6MemHl => exact h_res 6 .memHl
  | res6A => exact h_res 6 (.reg .a)
  | res7B => exact h_res 7 (.reg .b)
  | res7C => exact h_res 7 (.reg .c)
  | res7D => exact h_res 7 (.reg .d)
  | res7E => exact h_res 7 (.reg .e)
  | res7H => exact h_res 7 (.reg .h)
  | res7L => exact h_res 7 (.reg .l)
  | res7MemHl => exact h_res 7 .memHl
  | res7A => exact h_res 7 (.reg .a)
  | set0B => exact h_set 0 (.reg .b)
  | set0C => exact h_set 0 (.reg .c)
  | set0D => exact h_set 0 (.reg .d)
  | set0E => exact h_set 0 (.reg .e)
  | set0H => exact h_set 0 (.reg .h)
  | set0L => exact h_set 0 (.reg .l)
  | set0MemHl => exact h_set 0 .memHl
  | set0A => exact h_set 0 (.reg .a)
  | set1B => exact h_set 1 (.reg .b)
  | set1C => exact h_set 1 (.reg .c)
  | set1D => exact h_set 1 (.reg .d)
  | set1E => exact h_set 1 (.reg .e)
  | set1H => exact h_set 1 (.reg .h)
  | set1L => exact h_set 1 (.reg .l)
  | set1MemHl => exact h_set 1 .memHl
  | set1A => exact h_set 1 (.reg .a)
  | set2B => exact h_set 2 (.reg .b)
  | set2C => exact h_set 2 (.reg .c)
  | set2D => exact h_set 2 (.reg .d)
  | set2E => exact h_set 2 (.reg .e)
  | set2H => exact h_set 2 (.reg .h)
  | set2L => exact h_set 2 (.reg .l)
  | set2MemHl => exact h_set 2 .memHl
  | set2A => exact h_set 2 (.reg .a)
  | set3B => exact h_set 3 (.reg .b)
  | set3C => exact h_set 3 (.reg .c)
  | set3D => exact h_set 3 (.reg .d)
  | set3E => exact h_set 3 (.reg .e)
  | set3H => exact h_set 3 (.reg .h)
  | set3L => exact h_set 3 (.reg .l)
  | set3MemHl => exact h_set 3 .memHl
  | set3A => exact h_set 3 (.reg .a)
  | set4B => exact h_set 4 (.reg .b)
  | set4C => exact h_set 4 (.reg .c)
  | set4D => exact h_set 4 (.reg .d)
  | set4E => exact h_set 4 (.reg .e)
  | set4H => exact h_set 4 (.reg .h)
  | set4L => exact h_set 4 (.reg .l)
  | set4MemHl => exact h_set 4 .memHl
  | set4A => exact h_set 4 (.reg .a)
  | set5B => exact h_set 5 (.reg .b)
  | set5C => exact h_set 5 (.reg .c)
  | set5D => exact h_set 5 (.reg .d)
  | set5E => exact h_set 5 (.reg .e)
  | set5H => exact h_set 5 (.reg .h)
  | set5L => exact h_set 5 (.reg .l)
  | set5MemHl => exact h_set 5 .memHl
  | set5A => exact h_set 5 (.reg .a)
  | set6B => exact h_set 6 (.reg .b)
  | set6C => exact h_set 6 (.reg .c)
  | set6D => exact h_set 6 (.reg .d)
  | set6E => exact h_set 6 (.reg .e)
  | set6H => exact h_set 6 (.reg .h)
  | set6L => exact h_set 6 (.reg .l)
  | set6MemHl => exact h_set 6 .memHl
  | set6A => exact h_set 6 (.reg .a)
  | set7B => exact h_set 7 (.reg .b)
  | set7C => exact h_set 7 (.reg .c)
  | set7D => exact h_set 7 (.reg .d)
  | set7E => exact h_set 7 (.reg .e)
  | set7H => exact h_set 7 (.reg .h)
  | set7L => exact h_set 7 (.reg .l)
  | set7MemHl => exact h_set 7 .memHl
  | set7A => exact h_set 7 (.reg .a)

end Sys2Proof.Machine
end

