-- ==== Sys2Proof/Laws/Ppu.lean ====
section
/-! SUPPORT. What a unit tick and `advance` leave alone (60_exceptions.md R720), and the rendered row's width. -/

namespace Sys2Proof.Machine

/-- What a unit tick may change. -/
theorem State.tick_shape (s : State) : s.tick =
    { s with ly := s.tick.ly, dot := s.tick.dot, iflag := s.tick.iflag, framebuffer := s.tick.framebuffer } := by
  unfold State.tick
  split
  · simp only [State.nextLine]
    split <;> rfl
  · dsimp only
    split <;> rfl

@[simp] theorem State.tick_regs (s : State) : s.tick.regs = s.regs := by rw [State.tick_shape]

@[simp] theorem State.advance_regs (c : Nat) (s : State) : (State.advance c s).regs = s.regs := by
  induction c generalizing s with
  | zero => rfl
  | succ c ih => exact (ih s.tick).trans (State.tick_regs s)

@[simp] theorem State.tick_ime (s : State) : s.tick.ime = s.ime := by rw [State.tick_shape]

@[simp] theorem State.advance_ime (c : Nat) (s : State) : (State.advance c s).ime = s.ime := by
  induction c generalizing s with
  | zero => rfl
  | succ c ih => exact (ih s.tick).trans (State.tick_ime s)

@[simp] theorem State.tick_halted (s : State) : s.tick.halted = s.halted := by rw [State.tick_shape]

@[simp] theorem State.advance_halted (c : Nat) (s : State) : (State.advance c s).halted = s.halted := by
  induction c generalizing s with
  | zero => rfl
  | succ c ih => exact (ih s.tick).trans (State.tick_halted s)

@[simp] theorem State.tick_fault (s : State) : s.tick.fault = s.fault := by rw [State.tick_shape]

@[simp] theorem State.advance_fault (c : Nat) (s : State) : (State.advance c s).fault = s.fault := by
  induction c generalizing s with
  | zero => rfl
  | succ c ih => exact (ih s.tick).trans (State.tick_fault s)

@[simp] theorem State.tick_cycles (s : State) : s.tick.cycles = s.cycles := by rw [State.tick_shape]

@[simp] theorem State.advance_cycles (c : Nat) (s : State) : (State.advance c s).cycles = s.cycles := by
  induction c generalizing s with
  | zero => rfl
  | succ c ih => exact (ih s.tick).trans (State.tick_cycles s)

@[simp] theorem State.tick_mem (s : State) : s.tick.mem = s.mem := by rw [State.tick_shape]

@[simp] theorem State.advance_mem (c : Nat) (s : State) : (State.advance c s).mem = s.mem := by
  induction c generalizing s with
  | zero => rfl
  | succ c ih => exact (ih s.tick).trans (State.tick_mem s)

@[simp] theorem State.tick_p1 (s : State) : s.tick.p1 = s.p1 := by rw [State.tick_shape]

@[simp] theorem State.advance_p1 (c : Nat) (s : State) : (State.advance c s).p1 = s.p1 := by
  induction c generalizing s with
  | zero => rfl
  | succ c ih => exact (ih s.tick).trans (State.tick_p1 s)

@[simp] theorem State.tick_ie (s : State) : s.tick.ie = s.ie := by rw [State.tick_shape]

@[simp] theorem State.advance_ie (c : Nat) (s : State) : (State.advance c s).ie = s.ie := by
  induction c generalizing s with
  | zero => rfl
  | succ c ih => exact (ih s.tick).trans (State.tick_ie s)

@[simp] theorem State.tick_cart (s : State) : s.tick.cart = s.cart := by rw [State.tick_shape]

@[simp] theorem State.advance_cart (c : Nat) (s : State) : (State.advance c s).cart = s.cart := by
  induction c generalizing s with
  | zero => rfl
  | succ c ih => exact (ih s.tick).trans (State.tick_cart s)

@[simp] theorem State.tick_bank (s : State) : s.tick.bank = s.bank := by rw [State.tick_shape]

@[simp] theorem State.advance_bank (c : Nat) (s : State) : (State.advance c s).bank = s.bank := by
  induction c generalizing s with
  | zero => rfl
  | succ c ih => exact (ih s.tick).trans (State.tick_bank s)

@[simp] theorem State.tick_lcd (s : State) : s.tick.lcd = s.lcd := by rw [State.tick_shape]

@[simp] theorem State.advance_lcd (c : Nat) (s : State) : (State.advance c s).lcd = s.lcd := by
  induction c generalizing s with
  | zero => rfl
  | succ c ih => exact (ih s.tick).trans (State.tick_lcd s)

@[simp] theorem State.tick_frameTotal (s : State) : s.tick.frameTotal = s.frameTotal := by rw [State.tick_shape]

@[simp] theorem State.advance_frameTotal (c : Nat) (s : State) : (State.advance c s).frameTotal = s.frameTotal := by
  induction c generalizing s with
  | zero => rfl
  | succ c ih => exact (ih s.tick).trans (State.tick_frameTotal s)

@[simp] theorem State.tick_stop (s : State) : s.tick.stop = s.stop := by rw [State.tick_shape]

@[simp] theorem State.advance_stop (c : Nat) (s : State) : (State.advance c s).stop = s.stop := by
  induction c generalizing s with
  | zero => rfl
  | succ c ih => exact (ih s.tick).trans (State.tick_stop s)

@[simp] theorem State.tick_launch (s : State) : s.tick.launch = s.launch := by rw [State.tick_shape]

@[simp] theorem State.advance_launch (c : Nat) (s : State) : (State.advance c s).launch = s.launch := by
  induction c generalizing s with
  | zero => rfl
  | succ c ih => exact (ih s.tick).trans (State.tick_launch s)

@[simp] theorem State.tick_params (s : State) : s.tick.params = s.params := by rw [State.tick_shape]

@[simp] theorem State.advance_params (c : Nat) (s : State) : (State.advance c s).params = s.params := by
  induction c generalizing s with
  | zero => rfl
  | succ c ih => exact (ih s.tick).trans (State.tick_params s)

/-- A unit tick does not look at `halted`. -/
theorem State.tick_setHalted (s : State) (on : Bool) : State.tick { s with halted := on } = { s.tick with halted := on } := by
  unfold State.tick State.nextLine
  split
  · dsimp only
    split <;> rfl
  · dsimp only
    split <;> rfl

/-- Nor does `advance`. -/
theorem State.advance_setHalted (c : Nat) (s : State) (on : Bool) :
    State.advance c { s with halted := on } = { State.advance c s with halted := on } := by
  induction c generalizing s with
  | zero => rfl
  | succ c ih => exact (congrArg (State.advance c) (State.tick_setHalted s on)).trans (ih s.tick)

/-- A rendered row has 160 columns. -/
@[simp] theorem State.scanline_length (s : State) : s.scanline.length = 160 := by
  simp [State.scanline, Config.columns]

end Sys2Proof.Machine
end

