-- ==== Sys2Proof/Laws/Step.lean ====
section
/-! SUPPORT. Everything a step can do, said once (60_exceptions.md R750, 30_encoding.md R212), and the small lemmas of what surrounds an
instruction: undoing a wake, settling the display, launching. -/

namespace Sys2Proof.Machine

section Wake

variable (s : State)

@[simp] theorem wake_halted : s.wake.halted = false := rfl
@[simp] theorem wake_regs : s.wake.regs = s.regs := rfl
@[simp] theorem wake_fault : s.wake.fault = s.fault := rfl
@[simp] theorem wake_cycles : s.wake.cycles = s.cycles := rfl
@[simp] theorem wake_params : s.wake.params = s.params := rfl
@[simp] theorem wake_readByte (a : Word) : s.wake.readByte a = s.readByte a := rfl
/-- Waking does not move the fetch. -/
theorem wake_fetchInstr : s.wake.fetchInstr = s.fetchInstr := rfl

end Wake

section UndoWake

variable (s t : State)

/-- A step that does not fault keeps its wake (45_system.md R553). -/
theorem undoWake_of_runs (h : t.fault = none) : undoWake s t = t := by simp [undoWake, h]

/-- A step that faults does not (60_exceptions.md R702). -/
theorem undoWake_of_faults (h : t.fault ≠ none) : undoWake s t = { t with halted := s.halted } := by
  simp [undoWake, Option.isSome_iff_ne_none, h]

/-- What undoing a wake may change. -/
theorem undoWake_shape : undoWake s t = { t with halted := (undoWake s t).halted } := by
  unfold undoWake
  split <;> rfl

@[simp] theorem undoWake_fault : (undoWake s t).fault = t.fault := by rw [undoWake_shape]
@[simp] theorem undoWake_cycles : (undoWake s t).cycles = t.cycles := by rw [undoWake_shape]
@[simp] theorem undoWake_regs : (undoWake s t).regs = t.regs := by rw [undoWake_shape]
@[simp] theorem undoWake_mem : (undoWake s t).mem = t.mem := by rw [undoWake_shape]
@[simp] theorem undoWake_cart : (undoWake s t).cart = t.cart := by rw [undoWake_shape]
@[simp] theorem undoWake_bank : (undoWake s t).bank = t.bank := by rw [undoWake_shape]
@[simp] theorem undoWake_ly : (undoWake s t).ly = t.ly := by rw [undoWake_shape]
@[simp] theorem undoWake_dot : (undoWake s t).dot = t.dot := by rw [undoWake_shape]
@[simp] theorem undoWake_framebuffer : (undoWake s t).framebuffer = t.framebuffer := by rw [undoWake_shape]
@[simp] theorem undoWake_frameTotal : (undoWake s t).frameTotal = t.frameTotal := by rw [undoWake_shape]
@[simp] theorem undoWake_stop : (undoWake s t).stop = t.stop := by rw [undoWake_shape]
@[simp] theorem undoWake_launch : (undoWake s t).launch = t.launch := by rw [undoWake_shape]
@[simp] theorem undoWake_params : (undoWake s t).params = t.params := by rw [undoWake_shape]

end UndoWake

section Settle

variable (s t : State)

@[simp] theorem settle_regs : (settle s t).regs = t.regs := State.advance_regs ..
@[simp] theorem settle_ime : (settle s t).ime = t.ime := State.advance_ime ..
@[simp] theorem settle_halted : (settle s t).halted = t.halted := State.advance_halted ..
@[simp] theorem settle_fault : (settle s t).fault = t.fault := State.advance_fault ..
@[simp] theorem settle_cycles : (settle s t).cycles = t.cycles := State.advance_cycles ..
@[simp] theorem settle_mem : (settle s t).mem = t.mem := State.advance_mem ..
@[simp] theorem settle_p1 : (settle s t).p1 = t.p1 := State.advance_p1 ..
@[simp] theorem settle_ie : (settle s t).ie = t.ie := State.advance_ie ..
@[simp] theorem settle_cart : (settle s t).cart = t.cart := State.advance_cart ..
@[simp] theorem settle_bank : (settle s t).bank = t.bank := State.advance_bank ..
@[simp] theorem settle_lcd : (settle s t).lcd = t.lcd := State.advance_lcd ..
@[simp] theorem settle_stop : (settle s t).stop = t.stop := State.advance_stop ..
@[simp] theorem settle_launch : (settle s t).launch = t.launch := State.advance_launch ..
@[simp] theorem settle_params : (settle s t).params = t.params := State.advance_params ..

@[simp] theorem settle_frameTotal : (settle s t).frameTotal = t.frameTotal + (t.cycles - s.cycles) :=
  congrArg (· + (t.cycles - s.cycles)) (State.advance_frameTotal ..)

@[simp] theorem settle_ly : (settle s t).ly = (State.advance (t.cycles - s.cycles) t).ly := rfl
@[simp] theorem settle_dot : (settle s t).dot = (State.advance (t.cycles - s.cycles) t).dot := rfl
@[simp] theorem settle_framebuffer : (settle s t).framebuffer = (State.advance (t.cycles - s.cycles) t).framebuffer := rfl

/-- A step without a cost leaves display and driver alone (60_exceptions.md R702). -/
theorem settle_of_no_cost (h : t.cycles = s.cycles) : settle s t = t := by
  simp only [settle, h, Nat.sub_self]
  rfl

/-- Settling and setting `halted` commute. -/
theorem settle_setHalted (on : Bool) : settle s { t with halted := on } = { settle s t with halted := on } := by
  simp only [settle, State.advance_setHalted]

end Settle

section Step

variable {s t : State}

/-- What a step that answers a next state was: a halted tick, or the instruction at the program counter of the woken state. -/
theorem step_cases (h : step s = .next t) :
    s.stop = false ∧ s.fault = none ∧
      ((s.idles = true ∧ t = settle s s.haltedTick) ∨
        (s.idles = false ∧ ∃ u, exec s.wake.fetchInstr s.wake = .next u ∧ t = settle s (undoWake s u))) := by
  unfold step at h
  split at h
  · cases h
  rename_i hstop
  refine ⟨by simpa using hstop, ?_⟩
  split at h
  · cases h
  rename_i hfault
  refine ⟨hfault, ?_⟩
  split at h
  · rename_i hidle
    exact .inl ⟨hidle, (Host.Outcome.next.inj h).symm⟩
  · rename_i hidle
    refine .inr ⟨by simpa using hidle, ?_⟩
    split at h <;> first
      | (rename_i u hu; exact ⟨u, hu, (Host.Outcome.next.inj h).symm⟩)
      | cases h

/-- A halted tick (45_system.md R552). -/
theorem step_of_idles (hs : s.stop = false) (hf : s.fault = none) (hi : s.idles = true) : step s = .next (settle s s.haltedTick) := by
  simp [step, hs, hf, hi]

/-- A step that executes an instruction. -/
theorem step_of_runs {u : State} (hs : s.stop = false) (hf : s.fault = none) (hi : s.idles = false)
    (hu : exec s.wake.fetchInstr s.wake = .next u) : step s = .next (settle s (undoWake s u)) := by
  simp [step, hs, hf, hi, hu]

/-- A faulted machine has no step (60_exceptions.md R703). -/
theorem step_of_faulted {f : Fault} (hs : s.stop = false) (hf : s.fault = some f) : step s = .fault f := by
  simp [step, hs, hf]

/-- A stopped driver takes none (60_exceptions.md R753). -/
theorem step_of_stopped (hs : s.stop = true) : step s = .refused .stopped := by
  simp [step, hs]

/-- A run of one step more. -/
theorem run_succ_of_next {u : State} (h : step s = .next u) (k : Nat) : Host.Core.run core (k + 1) s = Host.Core.run core k u := by
  have h' : core.step s = .next u := h
  simp only [Host.Core.run, h']

end Step

@[simp] theorem State.launched_launch (s : State) : s.launched.launch = .running := rfl
@[simp] theorem State.launched_frameTotal (s : State) : s.launched.frameTotal = s.frameTotal := rfl
@[simp] theorem State.launched_stop (s : State) : s.launched.stop = s.stop := rfl
@[simp] theorem State.launched_fault (s : State) : s.launched.fault = s.fault := rfl

/-- Launching keeps the invariant. -/
theorem State.Inv.launched {s : State} (h : s.Inv) : s.launched.Inv := { h with }

end Sys2Proof.Machine
end

