-- ==== Sys2Proof/Laws/Host.lean ====
section
/-! SUPPORT. What the host's moves between two steps can change (60_exceptions.md R756), a run under such moves, and one iteration of the
driver's loop (R750). -/

namespace Sys2Proof.Machine

section Moves

variable (s : State) (move : HostMove) (moves : List HostMove)

@[simp] theorem State.moved_regs : (s.moved move).regs = s.regs := by cases move <;> rfl
@[simp] theorem State.moved_ime : (s.moved move).ime = s.ime := by cases move <;> rfl
@[simp] theorem State.moved_halted : (s.moved move).halted = s.halted := by cases move <;> rfl
@[simp] theorem State.moved_fault : (s.moved move).fault = s.fault := by cases move <;> rfl
@[simp] theorem State.moved_cycles : (s.moved move).cycles = s.cycles := by cases move <;> rfl
@[simp] theorem State.moved_mem : (s.moved move).mem = s.mem := by cases move <;> rfl
@[simp] theorem State.moved_iflag : (s.moved move).iflag = s.iflag := by cases move <;> rfl
@[simp] theorem State.moved_ie : (s.moved move).ie = s.ie := by cases move <;> rfl
@[simp] theorem State.moved_cart : (s.moved move).cart = s.cart := by cases move <;> rfl
@[simp] theorem State.moved_bank : (s.moved move).bank = s.bank := by cases move <;> rfl
@[simp] theorem State.moved_lcd : (s.moved move).lcd = s.lcd := by cases move <;> rfl
@[simp] theorem State.moved_ly : (s.moved move).ly = s.ly := by cases move <;> rfl
@[simp] theorem State.moved_dot : (s.moved move).dot = s.dot := by cases move <;> rfl
@[simp] theorem State.moved_framebuffer : (s.moved move).framebuffer = s.framebuffer := by cases move <;> rfl
@[simp] theorem State.moved_frameTotal : (s.moved move).frameTotal = s.frameTotal := by cases move <;> rfl
@[simp] theorem State.moved_launch : (s.moved move).launch = s.launch := by cases move <;> rfl
@[simp] theorem State.moved_params : (s.moved move).params = s.params := by cases move <;> rfl

@[simp] theorem State.hosted_nil : s.hosted [] = s := rfl
@[simp] theorem State.hosted_cons : s.hosted (move :: moves) = (s.moved move).hosted moves := rfl
@[simp] theorem State.replies_nil : s.replies [] = [] := rfl
@[simp] theorem State.replies_cons : s.replies (move :: moves) = s.reply move :: (s.moved move).replies moves := rfl

/-- Moves in two parts, the second made and answered where the first ends. -/
@[simp] theorem State.hosted_append (others : List HostMove) : s.hosted (moves ++ others) = (s.hosted moves).hosted others := by
  induction moves generalizing s <;> simp_all
@[simp] theorem State.replies_append (others : List HostMove) :
    s.replies (moves ++ others) = s.replies moves ++ (s.hosted moves).replies others := by
  induction moves generalizing s <;> simp_all

/-- What every move keeps, the moves between two steps keep. -/
theorem State.hosted_keeps {motive : State → Prop} (step : ∀ t m, motive t → motive (t.moved m)) (h : motive s) : motive (s.hosted moves) := by
  induction moves generalizing s with
  | nil => exact h
  | cons m _ ih => exact ih _ (step _ m h)

end Moves

section Driver

variable {s t u : State} {target fuel : Nat} {schedule : Schedule}

/-- A schedule is read from its front. -/
@[simp] theorem Schedule.now_cons (moves : List HostMove) (rest : Schedule) : Schedule.now (moves :: rest) = moves := rfl
@[simp] theorem Schedule.later_cons (moves : List HostMove) (rest : Schedule) : Schedule.later (moves :: rest) = rest := rfl

/-- The n-th entry of what is left is the one after it. -/
theorem Schedule.later_getD (n : Nat) : schedule.later.getD n [] = schedule.getD (n + 1) [] := by cases schedule <;> rfl

/-- The moves before the next step are the entry at 0. -/
theorem Schedule.now_eq : schedule.now = schedule.getD 0 [] := by cases schedule <;> rfl

/-- A run under no moves is the host's run of the core. -/
theorem hostedRun_nil (k : Nat) (s : State) : hostedRun k [] s = Host.Core.run core k s := by
  induction k generalizing s with
  | zero => rfl
  | succ k ih =>
    cases h : step s with
    | next t => rw [run_succ_of_next h]; simp only [hostedRun, Schedule.now, Schedule.later]; simpa [h] using ih t
    | fault f =>
      have h' : core.step s = .fault f := h
      simp [hostedRun, Host.Core.run, Schedule.now, h, h']
      rfl
    | refused r =>
      have h' : core.step s = .refused r := h
      simp [hostedRun, Host.Core.run, Schedule.now, h, h']
      rfl

/-- A run under moves of one step more. -/
theorem hostedRun_succ_of_next (h : step (s.hosted schedule.now) = .next u) (k : Nat) :
    hostedRun (k + 1) schedule s = hostedRun k schedule.later u := by simp only [hostedRun, h]

/-- The loop at the target returns the frame, with no move (R750, R755). -/
theorem frameLoop_of_done (h : target ≤ s.frameTotal) :
    frameLoop target (fuel + 1) schedule s = some ⟨.frame s.framebuffer s.frameTotal, [], s⟩ := by
  simp [frameLoop, Nat.not_lt.mpr h]

/-- The loop where the stop flag is set once the host has moved (R753). -/
theorem frameLoop_of_stopped (h : s.frameTotal < target) (ht : (s.hosted schedule.now).stop = true) :
    frameLoop target (fuel + 1) schedule s =
      some ⟨.stopped (s.hosted schedule.now).frameTotal, s.replies schedule.now, s.hosted schedule.now⟩ := by
  simp [frameLoop, h, step_of_stopped ht]

/-- The loop from a faulted state (R752, R703). -/
theorem frameLoop_of_faulted {f : Fault} (h : s.frameTotal < target) (hs : (s.hosted schedule.now).stop = false)
    (hf : (s.hosted schedule.now).fault = some f) :
    frameLoop target (fuel + 1) schedule s =
      some ⟨.faulted f (s.hosted schedule.now).frameTotal, s.replies schedule.now, s.hosted schedule.now⟩ := by
  simp [frameLoop, h, step_of_faulted hs hf]

/-- The loop where the step faults (R752). -/
theorem frameLoop_of_faults {f : Fault} (h : s.frameTotal < target) (hu : step (s.hosted schedule.now) = .next u) (hf : u.fault = some f) :
    frameLoop target (fuel + 1) schedule s = some ⟨.faulted f u.frameTotal, s.replies schedule.now, u⟩ := by
  simp [frameLoop, h, hu, hf]

/-- The loop where the step goes on (R750). -/
theorem frameLoop_of_next (h : s.frameTotal < target) (hu : step (s.hosted schedule.now) = .next u) (hf : u.fault = none) :
    frameLoop target (fuel + 1) schedule s =
      (frameLoop target fuel schedule.later u).map (FrameRun.heard (s.replies schedule.now)) := by
  simp [frameLoop, h, hu, hf]

end Driver

end Sys2Proof.Machine
end

