-- ==== Sys2Proof/Laws/Ops.lean ====
section
/-! SUPPORT. One lemma for each shared operation of Machine/Ops.lean: what completing an instruction, pushing and popping leave behind. -/

namespace Sys2Proof.Machine

/-- A change of registers that neither looks at the pc nor changes it. -/
def KeepsPc (f : Regs → Regs) : Prop := ∀ (g : Regs) (pc : Word), f { g with pc := pc } = { f g with pc := pc }

section Completion

variable (len cost : Nat) (s : State)

/-- An instruction that changes registers alone. -/
theorem complete_mapRegs {f : Regs → Regs} (hf : KeepsPc f) :
    complete len cost (fun t => t.mapRegs f) s = .next (s.retires len cost f) :=
  congrArg (fun g : Regs => (Host.Outcome.next { s with regs := g, cycles := s.cycles + cost } : Out))
    (hf s.regs (s.regs.pc + BitVec.ofNat 16 len))

/-- An instruction that stores one byte. -/
theorem complete_writeByte (a : Word) (v : Byte) :
    complete len cost (fun t => t.writeByte a v) s = .next ((s.writeByte a v).retires len cost id) := by
  show Host.Outcome.next (((s.skip len).writeByte a v).charge cost) = _
  rw [State.writeByte_skip]
  rfl

/-- An instruction that stores one byte and changes registers. -/
theorem complete_writeByte_mapRegs (a : Word) (v : Byte) {f : Regs → Regs} (hf : KeepsPc f) :
    complete len cost (fun t => (t.writeByte a v).mapRegs f) s = .next ((s.writeByte a v).retires len cost f) := by
  show Host.Outcome.next ((((s.skip len).writeByte a v).mapRegs f).charge cost) = _
  rw [State.writeByte_skip]
  exact complete_mapRegs len cost (s.writeByte a v) hf

/-- A conditional instruction, by its condition. -/
theorem completeIf_eq (cc : Cond) (taken notTaken : Nat) (effect : State → State) :
    completeIf cc len taken notTaken effect s =
      if s.regs.cond cc then complete len taken effect s else .next (s.retires len notTaken id) := rfl

end Completion

section Stack

variable (s : State) (v : Word)

/-- `Push16`: two bytes stored and SP two lower (40_load.md R322). -/
theorem State.push16_eq : s.push16 v = (s.pushed v).mapRegs fun g => { g with sp := g.sp - 2 } := by
  have two : s.regs.sp - 1 - 1 = s.regs.sp - 2 := by
    rw [BitVec.sub_sub]; rfl
  simp only [State.push16, State.setSp, State.writeByte_mapRegs, State.mapRegs_regs, State.writeByte_regs, two]
  simp only [State.pushed, State.mapRegs, State.writeByte_regs, hiByte, loByte]

@[simp] theorem State.pushed_regs : (s.pushed v).regs = s.regs := by simp [State.pushed]

/-- Pushing does not look at the pc. -/
theorem State.pushed_setPc (pc : Word) : (s.setPc pc).pushed v = (s.pushed v).setPc pc := by
  simp only [State.pushed, State.setPc, State.writeByte_mapRegs, State.mapRegs_regs]

/-- A call: the word pushed, the pc at the target. -/
theorem complete_call (len cost : Nat) (target : Word) :
    complete len cost (fun t => (t.push16 t.regs.pc).setPc target) s =
      .next ((s.pushed (s.regs.pc + BitVec.ofNat 16 len)).jumps target cost fun g => { g with sp := s.regs.sp - 2 }) := by
  show Host.Outcome.next ((((s.skip len).push16 (s.regs.pc + BitVec.ofNat 16 len)).setPc target).charge cost) = _
  rw [State.push16_eq, State.skip, State.pushed_setPc]
  simp only [State.jumps, State.charge, State.setPc, State.mapRegs, State.pushed_regs]

/-- A push of a word that does not depend on the pc. -/
theorem complete_push (len cost : Nat) :
    complete len cost (fun t => t.push16 v) s =
      .next ((s.pushed v).retires len cost fun g => { g with sp := s.regs.sp - 2 }) := by
  show Host.Outcome.next (((s.skip len).push16 v).charge cost) = _
  rw [State.push16_eq, State.skip, State.pushed_setPc]
  simp only [State.retires, State.charge, State.setPc, State.mapRegs, State.pushed_regs]

/-- A pop into a pair (40_load.md R323, R325, R326). -/
theorem complete_pop (len cost : Nat) (q : StackPair) :
    complete len cost (fun t => t.dropWord.mapRegs fun g => g.setStackPair q t.popValue) s =
      .next (s.retires len cost fun g => { g.setStackPair q s.popValue with sp := s.regs.sp + 2 }) := by
  cases q <;> rfl

/-- A return: the popped word in the pc (44_control.md R507). -/
theorem complete_return (len cost : Nat) :
    complete len cost (fun t => t.dropWord.setPc t.popValue) s =
      .next (s.jumps s.popValue cost fun g => { g with sp := s.regs.sp + 2 }) := rfl

end Stack

@[simp] theorem hiByte_word (hi lo : Byte) : hiByte (word hi lo) = hi := by
  simp only [hiByte, word, BitVec.extractLsb'_append_eq_of_le (Nat.le_refl 8)]
  simp

@[simp] theorem loByte_word (hi lo : Byte) : loByte (word hi lo) = lo := by
  simp only [loByte, word, BitVec.extractLsb'_append_eq_of_add_le (show 0 + 8 ≤ 8 by decide)]
  simp

/-- A word is its two bytes. -/
theorem word_hiByte_loByte (v : Word) : word (hiByte v) (loByte v) = v := by
  apply BitVec.eq_of_toNat_eq
  have := v.isLt
  simp only [word, hiByte, loByte, BitVec.toNat_append, BitVec.extractLsb'_toNat, Nat.shiftRight_zero]
  rw [← Nat.shiftLeft_add_eq_or_of_lt (Nat.mod_lt _ (by decide)), Nat.shiftLeft_eq, Nat.shiftRight_eq_div_pow]
  omega

/-- Taking the fault: a next state that differs in the pc and the fault alone (60_exceptions.md R702). -/
theorem raiseIllegal_eq (op : Byte) (s : State) :
    raiseIllegal op s = .next { s with regs := { s.regs with pc := s.regs.pc + 1 }, fault := some (.illegalOpcode op s.regs.pc) } := rfl

end Sys2Proof.Machine
end

