-- ==== Sys2Proof/Laws/Meanings.lean ====
section
/-! SUPPORT. The shared operations of the families that compute a result with flags, as one retired state each. -/

namespace Sys2Proof.Machine

/-- The register file with a result in A and its flags. -/
theorem Regs.setFlags_eq (g : Regs) (z n h c : Bool) : g.setFlags z n h c = { g with f := packFlags z n h c } := rfl

theorem doAlu_eq (op : AluOp) (x : AluSrc) (s : State) :
    doAlu op x s = .next (s.retires (aluLength x) (aluCost x) fun g =>
      { g with
        a := (alu8 op s.regs.a (s.aluSource x) s.regs.cf).value
        f := packFlags (alu8 op s.regs.a (s.aluSource x) s.regs.cf).z (alu8 op s.regs.a (s.aluSource x) s.regs.cf).n
          (alu8 op s.regs.a (s.aluSource x) s.regs.cf).h (alu8 op s.regs.a (s.aluSource x) s.regs.cf).c }) := by
  cases x <;> rfl

/-- Writing an operand and completing: the store or the register write, then the flags. -/
theorem complete_writeOperand (len cost : Nat) (o : Operand8) (v : Byte) {f : Regs → Regs} (hf : KeepsPc f) (s : State) :
    complete len cost (fun t => (t.writeOperand o v).mapRegs f) s = .next ((s.writeOperand o v).retires len cost f) := by
  cases o with
  | memHl => exact complete_writeByte_mapRegs len cost s s.regs.hl v hf
  | reg r =>
    refine (complete_mapRegs len cost s (f := fun g => f (g.set r v)) fun g pc => ?_).trans ?_
    · show f (Regs.set { g with pc := pc } r v) = _
      rw [show Regs.set { g with pc := pc } r v = { g.set r v with pc := pc } by cases r <;> rfl, hf]
    · simp only [State.retires, State.writeOperand, State.setReg, State.mapRegs]
      cases r <;> rfl

theorem doShift_eq (k : ShiftOp) (o : Operand8) (s : State) :
    doShift k o s =
      .next ((s.writeOperand o (shift8 k (s.readOperand o) s.regs.cf).1).retires 2 (cbCost o) fun g =>
        { g with
          f := packFlags ((shift8 k (s.readOperand o) s.regs.cf).1 = 0) false false
            (shift8 k (s.readOperand o) s.regs.cf).2 }) :=
  complete_writeOperand 2 (cbCost o) o (shift8 k (s.readOperand o) s.regs.cf).1 (fun _ _ => rfl) s

theorem doBit_eq (b : Fin 8) (o : Operand8) (s : State) :
    doBit b o s = .next (s.retires 2 (bitCost s.params o) fun g =>
      { g with f := packFlags (!(s.readOperand o).getLsbD b.val) false true s.regs.cf }) := by
  cases o <;> rfl

theorem doRes_eq (b : Fin 8) (o : Operand8) (s : State) :
    doRes b o s =
      .next ((s.writeOperand o (s.readOperand o &&& ~~~(1#8 <<< b.val))).retires 2 (cbCost o) id) :=
  complete_writeOperand 2 (cbCost o) o (s.readOperand o &&& ~~~(1#8 <<< b.val)) (f := id) (fun _ _ => rfl) s

theorem doSet_eq (b : Fin 8) (o : Operand8) (s : State) :
    doSet b o s = .next ((s.writeOperand o (s.readOperand o ||| 1#8 <<< b.val)).retires 2 (cbCost o) id) :=
  complete_writeOperand 2 (cbCost o) o (s.readOperand o ||| 1#8 <<< b.val) (f := id) (fun _ _ => rfl) s

theorem doRotateA_eq (k : ShiftOp) (s : State) :
    doRotateA k s = .next (s.retires 1 4 fun g =>
      { g with a := (shift8 k s.regs.a s.regs.cf).1, f := packFlags false false false (shift8 k s.regs.a s.regs.cf).2 }) := rfl

end Sys2Proof.Machine
end

