-- ==== Sys2Proof/Laws/PerInstr.lean ====
section
/-! SUPPORT. The per-instruction family `FirstByte`: an instruction's encoding has as many bytes as its row says, and its first byte alone tells
a decoder that number (30_encoding.md R200, R219). -/

namespace Sys2Proof.Laws.FirstByte

/-- The encoding has the row's length, and the first byte's entry tells it. -/
def Statement (i : Instr) : Prop :=
  (encode i).length = i.row.length ∧ (primary ((encode i).headD 0)).length = i.row.length

theorem nop : Statement (.nop) :=
  ⟨rfl, show (primary 0x00).length = 1 from rfl⟩
theorem ldBcN16 (nn : Word) : Statement (.ldBcN16 nn) :=
  ⟨rfl, show (primary 0x01).length = 3 from rfl⟩
theorem ldMemBcA : Statement (.ldMemBcA) :=
  ⟨rfl, show (primary 0x02).length = 1 from rfl⟩
theorem incBc : Statement (.incBc) :=
  ⟨rfl, show (primary 0x03).length = 1 from rfl⟩
theorem incB : Statement (.incB) :=
  ⟨rfl, show (primary 0x04).length = 1 from rfl⟩
theorem decB : Statement (.decB) :=
  ⟨rfl, show (primary 0x05).length = 1 from rfl⟩
theorem ldBN8 (n : Byte) : Statement (.ldBN8 n) :=
  ⟨rfl, show (primary 0x06).length = 2 from rfl⟩
theorem rlca : Statement (.rlca) :=
  ⟨rfl, show (primary 0x07).length = 1 from rfl⟩
theorem ldMemN16Sp (nn : Word) : Statement (.ldMemN16Sp nn) :=
  ⟨rfl, show (primary 0x08).length = 3 from rfl⟩
theorem addHlBc : Statement (.addHlBc) :=
  ⟨rfl, show (primary 0x09).length = 1 from rfl⟩
theorem ldAMemBc : Statement (.ldAMemBc) :=
  ⟨rfl, show (primary 0x0A).length = 1 from rfl⟩
theorem decBc : Statement (.decBc) :=
  ⟨rfl, show (primary 0x0B).length = 1 from rfl⟩
theorem incC : Statement (.incC) :=
  ⟨rfl, show (primary 0x0C).length = 1 from rfl⟩
theorem decC : Statement (.decC) :=
  ⟨rfl, show (primary 0x0D).length = 1 from rfl⟩
theorem ldCN8 (n : Byte) : Statement (.ldCN8 n) :=
  ⟨rfl, show (primary 0x0E).length = 2 from rfl⟩
theorem rrca : Statement (.rrca) :=
  ⟨rfl, show (primary 0x0F).length = 1 from rfl⟩
theorem stop (n : Byte) : Statement (.stop n) :=
  ⟨rfl, show (primary 0x10).length = 2 from rfl⟩
theorem ldDeN16 (nn : Word) : Statement (.ldDeN16 nn) :=
  ⟨rfl, show (primary 0x11).length = 3 from rfl⟩
theorem ldMemDeA : Statement (.ldMemDeA) :=
  ⟨rfl, show (primary 0x12).length = 1 from rfl⟩
theorem incDe : Statement (.incDe) :=
  ⟨rfl, show (primary 0x13).length = 1 from rfl⟩
theorem incD : Statement (.incD) :=
  ⟨rfl, show (primary 0x14).length = 1 from rfl⟩
theorem decD : Statement (.decD) :=
  ⟨rfl, show (primary 0x15).length = 1 from rfl⟩
theorem ldDN8 (n : Byte) : Statement (.ldDN8 n) :=
  ⟨rfl, show (primary 0x16).length = 2 from rfl⟩
theorem rla : Statement (.rla) :=
  ⟨rfl, show (primary 0x17).length = 1 from rfl⟩
theorem jrE8 (e : Byte) : Statement (.jrE8 e) :=
  ⟨rfl, show (primary 0x18).length = 2 from rfl⟩
theorem addHlDe : Statement (.addHlDe) :=
  ⟨rfl, show (primary 0x19).length = 1 from rfl⟩
theorem ldAMemDe : Statement (.ldAMemDe) :=
  ⟨rfl, show (primary 0x1A).length = 1 from rfl⟩
theorem decDe : Statement (.decDe) :=
  ⟨rfl, show (primary 0x1B).length = 1 from rfl⟩
theorem incE : Statement (.incE) :=
  ⟨rfl, show (primary 0x1C).length = 1 from rfl⟩
theorem decE : Statement (.decE) :=
  ⟨rfl, show (primary 0x1D).length = 1 from rfl⟩
theorem ldEN8 (n : Byte) : Statement (.ldEN8 n) :=
  ⟨rfl, show (primary 0x1E).length = 2 from rfl⟩
theorem rra : Statement (.rra) :=
  ⟨rfl, show (primary 0x1F).length = 1 from rfl⟩
theorem jrNzE8 (e : Byte) : Statement (.jrNzE8 e) :=
  ⟨rfl, show (primary 0x20).length = 2 from rfl⟩
theorem ldHlN16 (nn : Word) : Statement (.ldHlN16 nn) :=
  ⟨rfl, show (primary 0x21).length = 3 from rfl⟩
theorem ldMemHlIncA : Statement (.ldMemHlIncA) :=
  ⟨rfl, show (primary 0x22).length = 1 from rfl⟩
theorem incHl : Statement (.incHl) :=
  ⟨rfl, show (primary 0x23).length = 1 from rfl⟩
theorem incH : Statement (.incH) :=
  ⟨rfl, show (primary 0x24).length = 1 from rfl⟩
theorem decH : Statement (.decH) :=
  ⟨rfl, show (primary 0x25).length = 1 from rfl⟩
theorem ldHN8 (n : Byte) : Statement (.ldHN8 n) :=
  ⟨rfl, show (primary 0x26).length = 2 from rfl⟩
theorem daa : Statement (.daa) :=
  ⟨rfl, show (primary 0x27).length = 1 from rfl⟩
theorem jrZE8 (e : Byte) : Statement (.jrZE8 e) :=
  ⟨rfl, show (primary 0x28).length = 2 from rfl⟩
theorem addHlHl : Statement (.addHlHl) :=
  ⟨rfl, show (primary 0x29).length = 1 from rfl⟩
theorem ldAMemHlInc : Statement (.ldAMemHlInc) :=
  ⟨rfl, show (primary 0x2A).length = 1 from rfl⟩
theorem decHl : Statement (.decHl) :=
  ⟨rfl, show (primary 0x2B).length = 1 from rfl⟩
theorem incL : Statement (.incL) :=
  ⟨rfl, show (primary 0x2C).length = 1 from rfl⟩
theorem decL : Statement (.decL) :=
  ⟨rfl, show (primary 0x2D).length = 1 from rfl⟩
theorem ldLN8 (n : Byte) : Statement (.ldLN8 n) :=
  ⟨rfl, show (primary 0x2E).length = 2 from rfl⟩
theorem cpl : Statement (.cpl) :=
  ⟨rfl, show (primary 0x2F).length = 1 from rfl⟩
theorem jrNcE8 (e : Byte) : Statement (.jrNcE8 e) :=
  ⟨rfl, show (primary 0x30).length = 2 from rfl⟩
theorem ldSpN16 (nn : Word) : Statement (.ldSpN16 nn) :=
  ⟨rfl, show (primary 0x31).length = 3 from rfl⟩
theorem ldMemHlDecA : Statement (.ldMemHlDecA) :=
  ⟨rfl, show (primary 0x32).length = 1 from rfl⟩
theorem incSp : Statement (.incSp) :=
  ⟨rfl, show (primary 0x33).length = 1 from rfl⟩
theorem incMemHl : Statement (.incMemHl) :=
  ⟨rfl, show (primary 0x34).length = 1 from rfl⟩
theorem decMemHl : Statement (.decMemHl) :=
  ⟨rfl, show (primary 0x35).length = 1 from rfl⟩
theorem ldMemHlN8 (n : Byte) : Statement (.ldMemHlN8 n) :=
  ⟨rfl, show (primary 0x36).length = 2 from rfl⟩
theorem scf : Statement (.scf) :=
  ⟨rfl, show (primary 0x37).length = 1 from rfl⟩
theorem jrCE8 (e : Byte) : Statement (.jrCE8 e) :=
  ⟨rfl, show (primary 0x38).length = 2 from rfl⟩
theorem addHlSp : Statement (.addHlSp) :=
  ⟨rfl, show (primary 0x39).length = 1 from rfl⟩
theorem ldAMemHlDec : Statement (.ldAMemHlDec) :=
  ⟨rfl, show (primary 0x3A).length = 1 from rfl⟩
theorem decSp : Statement (.decSp) :=
  ⟨rfl, show (primary 0x3B).length = 1 from rfl⟩
theorem incA : Statement (.incA) :=
  ⟨rfl, show (primary 0x3C).length = 1 from rfl⟩
theorem decA : Statement (.decA) :=
  ⟨rfl, show (primary 0x3D).length = 1 from rfl⟩
theorem ldAN8 (n : Byte) : Statement (.ldAN8 n) :=
  ⟨rfl, show (primary 0x3E).length = 2 from rfl⟩
theorem ccf : Statement (.ccf) :=
  ⟨rfl, show (primary 0x3F).length = 1 from rfl⟩
theorem ldBB : Statement (.ldBB) :=
  ⟨rfl, show (primary 0x40).length = 1 from rfl⟩
theorem ldBC : Statement (.ldBC) :=
  ⟨rfl, show (primary 0x41).length = 1 from rfl⟩
theorem ldBD : Statement (.ldBD) :=
  ⟨rfl, show (primary 0x42).length = 1 from rfl⟩
theorem ldBE : Statement (.ldBE) :=
  ⟨rfl, show (primary 0x43).length = 1 from rfl⟩
theorem ldBH : Statement (.ldBH) :=
  ⟨rfl, show (primary 0x44).length = 1 from rfl⟩
theorem ldBL : Statement (.ldBL) :=
  ⟨rfl, show (primary 0x45).length = 1 from rfl⟩
theorem ldBMemHl : Statement (.ldBMemHl) :=
  ⟨rfl, show (primary 0x46).length = 1 from rfl⟩
theorem ldBA : Statement (.ldBA) :=
  ⟨rfl, show (primary 0x47).length = 1 from rfl⟩
theorem ldCB : Statement (.ldCB) :=
  ⟨rfl, show (primary 0x48).length = 1 from rfl⟩
theorem ldCC : Statement (.ldCC) :=
  ⟨rfl, show (primary 0x49).length = 1 from rfl⟩
theorem ldCD : Statement (.ldCD) :=
  ⟨rfl, show (primary 0x4A).length = 1 from rfl⟩
theorem ldCE : Statement (.ldCE) :=
  ⟨rfl, show (primary 0x4B).length = 1 from rfl⟩
theorem ldCH : Statement (.ldCH) :=
  ⟨rfl, show (primary 0x4C).length = 1 from rfl⟩
theorem ldCL : Statement (.ldCL) :=
  ⟨rfl, show (primary 0x4D).length = 1 from rfl⟩
theorem ldCMemHl : Statement (.ldCMemHl) :=
  ⟨rfl, show (primary 0x4E).length = 1 from rfl⟩
theorem ldCA : Statement (.ldCA) :=
  ⟨rfl, show (primary 0x4F).length = 1 from rfl⟩
theorem ldDB : Statement (.ldDB) :=
  ⟨rfl, show (primary 0x50).length = 1 from rfl⟩
theorem ldDC : Statement (.ldDC) :=
  ⟨rfl, show (primary 0x51).length = 1 from rfl⟩
theorem ldDD : Statement (.ldDD) :=
  ⟨rfl, show (primary 0x52).length = 1 from rfl⟩
theorem ldDE : Statement (.ldDE) :=
  ⟨rfl, show (primary 0x53).length = 1 from rfl⟩
theorem ldDH : Statement (.ldDH) :=
  ⟨rfl, show (primary 0x54).length = 1 from rfl⟩
theorem ldDL : Statement (.ldDL) :=
  ⟨rfl, show (primary 0x55).length = 1 from rfl⟩
theorem ldDMemHl : Statement (.ldDMemHl) :=
  ⟨rfl, show (primary 0x56).length = 1 from rfl⟩
theorem ldDA : Statement (.ldDA) :=
  ⟨rfl, show (primary 0x57).length = 1 from rfl⟩
theorem ldEB : Statement (.ldEB) :=
  ⟨rfl, show (primary 0x58).length = 1 from rfl⟩
theorem ldEC : Statement (.ldEC) :=
  ⟨rfl, show (primary 0x59).length = 1 from rfl⟩
theorem ldED : Statement (.ldED) :=
  ⟨rfl, show (primary 0x5A).length = 1 from rfl⟩
theorem ldEE : Statement (.ldEE) :=
  ⟨rfl, show (primary 0x5B).length = 1 from rfl⟩
theorem ldEH : Statement (.ldEH) :=
  ⟨rfl, show (primary 0x5C).length = 1 from rfl⟩
theorem ldEL : Statement (.ldEL) :=
  ⟨rfl, show (primary 0x5D).length = 1 from rfl⟩
theorem ldEMemHl : Statement (.ldEMemHl) :=
  ⟨rfl, show (primary 0x5E).length = 1 from rfl⟩
theorem ldEA : Statement (.ldEA) :=
  ⟨rfl, show (primary 0x5F).length = 1 from rfl⟩
theorem ldHB : Statement (.ldHB) :=
  ⟨rfl, show (primary 0x60).length = 1 from rfl⟩
theorem ldHC : Statement (.ldHC) :=
  ⟨rfl, show (primary 0x61).length = 1 from rfl⟩
theorem ldHD : Statement (.ldHD) :=
  ⟨rfl, show (primary 0x62).length = 1 from rfl⟩
theorem ldHE : Statement (.ldHE) :=
  ⟨rfl, show (primary 0x63).length = 1 from rfl⟩
theorem ldHH : Statement (.ldHH) :=
  ⟨rfl, show (primary 0x64).length = 1 from rfl⟩
theorem ldHL : Statement (.ldHL) :=
  ⟨rfl, show (primary 0x65).length = 1 from rfl⟩
theorem ldHMemHl : Statement (.ldHMemHl) :=
  ⟨rfl, show (primary 0x66).length = 1 from rfl⟩
theorem ldHA : Statement (.ldHA) :=
  ⟨rfl, show (primary 0x67).length = 1 from rfl⟩
theorem ldLB : Statement (.ldLB) :=
  ⟨rfl, show (primary 0x68).length = 1 from rfl⟩
theorem ldLC : Statement (.ldLC) :=
  ⟨rfl, show (primary 0x69).length = 1 from rfl⟩
theorem ldLD : Statement (.ldLD) :=
  ⟨rfl, show (primary 0x6A).length = 1 from rfl⟩
theorem ldLE : Statement (.ldLE) :=
  ⟨rfl, show (primary 0x6B).length = 1 from rfl⟩
theorem ldLH : Statement (.ldLH) :=
  ⟨rfl, show (primary 0x6C).length = 1 from rfl⟩
theorem ldLL : Statement (.ldLL) :=
  ⟨rfl, show (primary 0x6D).length = 1 from rfl⟩
theorem ldLMemHl : Statement (.ldLMemHl) :=
  ⟨rfl, show (primary 0x6E).length = 1 from rfl⟩
theorem ldLA : Statement (.ldLA) :=
  ⟨rfl, show (primary 0x6F).length = 1 from rfl⟩
theorem ldMemHlB : Statement (.ldMemHlB) :=
  ⟨rfl, show (primary 0x70).length = 1 from rfl⟩
theorem ldMemHlC : Statement (.ldMemHlC) :=
  ⟨rfl, show (primary 0x71).length = 1 from rfl⟩
theorem ldMemHlD : Statement (.ldMemHlD) :=
  ⟨rfl, show (primary 0x72).length = 1 from rfl⟩
theorem ldMemHlE : Statement (.ldMemHlE) :=
  ⟨rfl, show (primary 0x73).length = 1 from rfl⟩
theorem ldMemHlH : Statement (.ldMemHlH) :=
  ⟨rfl, show (primary 0x74).length = 1 from rfl⟩
theorem ldMemHlL : Statement (.ldMemHlL) :=
  ⟨rfl, show (primary 0x75).length = 1 from rfl⟩
theorem halt : Statement (.halt) :=
  ⟨rfl, show (primary 0x76).length = 1 from rfl⟩
theorem ldMemHlA : Statement (.ldMemHlA) :=
  ⟨rfl, show (primary 0x77).length = 1 from rfl⟩
theorem ldAB : Statement (.ldAB) :=
  ⟨rfl, show (primary 0x78).length = 1 from rfl⟩
theorem ldAC : Statement (.ldAC) :=
  ⟨rfl, show (primary 0x79).length = 1 from rfl⟩
theorem ldAD : Statement (.ldAD) :=
  ⟨rfl, show (primary 0x7A).length = 1 from rfl⟩
theorem ldAE : Statement (.ldAE) :=
  ⟨rfl, show (primary 0x7B).length = 1 from rfl⟩
theorem ldAH : Statement (.ldAH) :=
  ⟨rfl, show (primary 0x7C).length = 1 from rfl⟩
theorem ldAL : Statement (.ldAL) :=
  ⟨rfl, show (primary 0x7D).length = 1 from rfl⟩
theorem ldAMemHl : Statement (.ldAMemHl) :=
  ⟨rfl, show (primary 0x7E).length = 1 from rfl⟩
theorem ldAA : Statement (.ldAA) :=
  ⟨rfl, show (primary 0x7F).length = 1 from rfl⟩
theorem addAB : Statement (.addAB) :=
  ⟨rfl, show (primary 0x80).length = 1 from rfl⟩
theorem addAC : Statement (.addAC) :=
  ⟨rfl, show (primary 0x81).length = 1 from rfl⟩
theorem addAD : Statement (.addAD) :=
  ⟨rfl, show (primary 0x82).length = 1 from rfl⟩
theorem addAE : Statement (.addAE) :=
  ⟨rfl, show (primary 0x83).length = 1 from rfl⟩
theorem addAH : Statement (.addAH) :=
  ⟨rfl, show (primary 0x84).length = 1 from rfl⟩
theorem addAL : Statement (.addAL) :=
  ⟨rfl, show (primary 0x85).length = 1 from rfl⟩
theorem addAMemHl : Statement (.addAMemHl) :=
  ⟨rfl, show (primary 0x86).length = 1 from rfl⟩
theorem addAA : Statement (.addAA) :=
  ⟨rfl, show (primary 0x87).length = 1 from rfl⟩
theorem adcAB : Statement (.adcAB) :=
  ⟨rfl, show (primary 0x88).length = 1 from rfl⟩
theorem adcAC : Statement (.adcAC) :=
  ⟨rfl, show (primary 0x89).length = 1 from rfl⟩
theorem adcAD : Statement (.adcAD) :=
  ⟨rfl, show (primary 0x8A).length = 1 from rfl⟩
theorem adcAE : Statement (.adcAE) :=
  ⟨rfl, show (primary 0x8B).length = 1 from rfl⟩
theorem adcAH : Statement (.adcAH) :=
  ⟨rfl, show (primary 0x8C).length = 1 from rfl⟩
theorem adcAL : Statement (.adcAL) :=
  ⟨rfl, show (primary 0x8D).length = 1 from rfl⟩
theorem adcAMemHl : Statement (.adcAMemHl) :=
  ⟨rfl, show (primary 0x8E).length = 1 from rfl⟩
theorem adcAA : Statement (.adcAA) :=
  ⟨rfl, show (primary 0x8F).length = 1 from rfl⟩
theorem subB : Statement (.subB) :=
  ⟨rfl, show (primary 0x90).length = 1 from rfl⟩
theorem subC : Statement (.subC) :=
  ⟨rfl, show (primary 0x91).length = 1 from rfl⟩
theorem subD : Statement (.subD) :=
  ⟨rfl, show (primary 0x92).length = 1 from rfl⟩
theorem subE : Statement (.subE) :=
  ⟨rfl, show (primary 0x93).length = 1 from rfl⟩
theorem subH : Statement (.subH) :=
  ⟨rfl, show (primary 0x94).length = 1 from rfl⟩
theorem subL : Statement (.subL) :=
  ⟨rfl, show (primary 0x95).length = 1 from rfl⟩
theorem subMemHl : Statement (.subMemHl) :=
  ⟨rfl, show (primary 0x96).length = 1 from rfl⟩
theorem subA : Statement (.subA) :=
  ⟨rfl, show (primary 0x97).length = 1 from rfl⟩
theorem sbcAB : Statement (.sbcAB) :=
  ⟨rfl, show (primary 0x98).length = 1 from rfl⟩
theorem sbcAC : Statement (.sbcAC) :=
  ⟨rfl, show (primary 0x99).length = 1 from rfl⟩
theorem sbcAD : Statement (.sbcAD) :=
  ⟨rfl, show (primary 0x9A).length = 1 from rfl⟩
theorem sbcAE : Statement (.sbcAE) :=
  ⟨rfl, show (primary 0x9B).length = 1 from rfl⟩
theorem sbcAH : Statement (.sbcAH) :=
  ⟨rfl, show (primary 0x9C).length = 1 from rfl⟩
theorem sbcAL : Statement (.sbcAL) :=
  ⟨rfl, show (primary 0x9D).length = 1 from rfl⟩
theorem sbcAMemHl : Statement (.sbcAMemHl) :=
  ⟨rfl, show (primary 0x9E).length = 1 from rfl⟩
theorem sbcAA : Statement (.sbcAA) :=
  ⟨rfl, show (primary 0x9F).length = 1 from rfl⟩
theorem andB : Statement (.andB) :=
  ⟨rfl, show (primary 0xA0).length = 1 from rfl⟩
theorem andC : Statement (.andC) :=
  ⟨rfl, show (primary 0xA1).length = 1 from rfl⟩
theorem andD : Statement (.andD) :=
  ⟨rfl, show (primary 0xA2).length = 1 from rfl⟩
theorem andE : Statement (.andE) :=
  ⟨rfl, show (primary 0xA3).length = 1 from rfl⟩
theorem andH : Statement (.andH) :=
  ⟨rfl, show (primary 0xA4).length = 1 from rfl⟩
theorem andL : Statement (.andL) :=
  ⟨rfl, show (primary 0xA5).length = 1 from rfl⟩
theorem andMemHl : Statement (.andMemHl) :=
  ⟨rfl, show (primary 0xA6).length = 1 from rfl⟩
theorem andA : Statement (.andA) :=
  ⟨rfl, show (primary 0xA7).length = 1 from rfl⟩
theorem xorB : Statement (.xorB) :=
  ⟨rfl, show (primary 0xA8).length = 1 from rfl⟩
theorem xorC : Statement (.xorC) :=
  ⟨rfl, show (primary 0xA9).length = 1 from rfl⟩
theorem xorD : Statement (.xorD) :=
  ⟨rfl, show (primary 0xAA).length = 1 from rfl⟩
theorem xorE : Statement (.xorE) :=
  ⟨rfl, show (primary 0xAB).length = 1 from rfl⟩
theorem xorH : Statement (.xorH) :=
  ⟨rfl, show (primary 0xAC).length = 1 from rfl⟩
theorem xorL : Statement (.xorL) :=
  ⟨rfl, show (primary 0xAD).length = 1 from rfl⟩
theorem xorMemHl : Statement (.xorMemHl) :=
  ⟨rfl, show (primary 0xAE).length = 1 from rfl⟩
theorem xorA : Statement (.xorA) :=
  ⟨rfl, show (primary 0xAF).length = 1 from rfl⟩
theorem orB : Statement (.orB) :=
  ⟨rfl, show (primary 0xB0).length = 1 from rfl⟩
theorem orC : Statement (.orC) :=
  ⟨rfl, show (primary 0xB1).length = 1 from rfl⟩
theorem orD : Statement (.orD) :=
  ⟨rfl, show (primary 0xB2).length = 1 from rfl⟩
theorem orE : Statement (.orE) :=
  ⟨rfl, show (primary 0xB3).length = 1 from rfl⟩
theorem orH : Statement (.orH) :=
  ⟨rfl, show (primary 0xB4).length = 1 from rfl⟩
theorem orL : Statement (.orL) :=
  ⟨rfl, show (primary 0xB5).length = 1 from rfl⟩
theorem orMemHl : Statement (.orMemHl) :=
  ⟨rfl, show (primary 0xB6).length = 1 from rfl⟩
theorem orA : Statement (.orA) :=
  ⟨rfl, show (primary 0xB7).length = 1 from rfl⟩
theorem cpB : Statement (.cpB) :=
  ⟨rfl, show (primary 0xB8).length = 1 from rfl⟩
theorem cpC : Statement (.cpC) :=
  ⟨rfl, show (primary 0xB9).length = 1 from rfl⟩
theorem cpD : Statement (.cpD) :=
  ⟨rfl, show (primary 0xBA).length = 1 from rfl⟩
theorem cpE : Statement (.cpE) :=
  ⟨rfl, show (primary 0xBB).length = 1 from rfl⟩
theorem cpH : Statement (.cpH) :=
  ⟨rfl, show (primary 0xBC).length = 1 from rfl⟩
theorem cpL : Statement (.cpL) :=
  ⟨rfl, show (primary 0xBD).length = 1 from rfl⟩
theorem cpMemHl : Statement (.cpMemHl) :=
  ⟨rfl, show (primary 0xBE).length = 1 from rfl⟩
theorem cpA : Statement (.cpA) :=
  ⟨rfl, show (primary 0xBF).length = 1 from rfl⟩
theorem retNz : Statement (.retNz) :=
  ⟨rfl, show (primary 0xC0).length = 1 from rfl⟩
theorem popBc : Statement (.popBc) :=
  ⟨rfl, show (primary 0xC1).length = 1 from rfl⟩
theorem jpNzN16 (nn : Word) : Statement (.jpNzN16 nn) :=
  ⟨rfl, show (primary 0xC2).length = 3 from rfl⟩
theorem jpN16 (nn : Word) : Statement (.jpN16 nn) :=
  ⟨rfl, show (primary 0xC3).length = 3 from rfl⟩
theorem callNzN16 (nn : Word) : Statement (.callNzN16 nn) :=
  ⟨rfl, show (primary 0xC4).length = 3 from rfl⟩
theorem pushBc : Statement (.pushBc) :=
  ⟨rfl, show (primary 0xC5).length = 1 from rfl⟩
theorem addAN8 (n : Byte) : Statement (.addAN8 n) :=
  ⟨rfl, show (primary 0xC6).length = 2 from rfl⟩
theorem rst00 : Statement (.rst00) :=
  ⟨rfl, show (primary 0xC7).length = 1 from rfl⟩
theorem retZ : Statement (.retZ) :=
  ⟨rfl, show (primary 0xC8).length = 1 from rfl⟩
theorem ret : Statement (.ret) :=
  ⟨rfl, show (primary 0xC9).length = 1 from rfl⟩
theorem jpZN16 (nn : Word) : Statement (.jpZN16 nn) :=
  ⟨rfl, show (primary 0xCA).length = 3 from rfl⟩
theorem prefixCb (cb : Byte) : Statement (.prefixCb cb) :=
  ⟨rfl, show (primary 0xCB).length = 2 from rfl⟩
theorem callZN16 (nn : Word) : Statement (.callZN16 nn) :=
  ⟨rfl, show (primary 0xCC).length = 3 from rfl⟩
theorem callN16 (nn : Word) : Statement (.callN16 nn) :=
  ⟨rfl, show (primary 0xCD).length = 3 from rfl⟩
theorem adcAN8 (n : Byte) : Statement (.adcAN8 n) :=
  ⟨rfl, show (primary 0xCE).length = 2 from rfl⟩
theorem rst08 : Statement (.rst08) :=
  ⟨rfl, show (primary 0xCF).length = 1 from rfl⟩
theorem retNc : Statement (.retNc) :=
  ⟨rfl, show (primary 0xD0).length = 1 from rfl⟩
theorem popDe : Statement (.popDe) :=
  ⟨rfl, show (primary 0xD1).length = 1 from rfl⟩
theorem jpNcN16 (nn : Word) : Statement (.jpNcN16 nn) :=
  ⟨rfl, show (primary 0xD2).length = 3 from rfl⟩
theorem illegalD3 : Statement (.illegalD3) :=
  ⟨rfl, show (primary 0xD3).length = 1 from rfl⟩
theorem callNcN16 (nn : Word) : Statement (.callNcN16 nn) :=
  ⟨rfl, show (primary 0xD4).length = 3 from rfl⟩
theorem pushDe : Statement (.pushDe) :=
  ⟨rfl, show (primary 0xD5).length = 1 from rfl⟩
theorem subN8 (n : Byte) : Statement (.subN8 n) :=
  ⟨rfl, show (primary 0xD6).length = 2 from rfl⟩
theorem rst10 : Statement (.rst10) :=
  ⟨rfl, show (primary 0xD7).length = 1 from rfl⟩
theorem retC : Statement (.retC) :=
  ⟨rfl, show (primary 0xD8).length = 1 from rfl⟩
theorem reti : Statement (.reti) :=
  ⟨rfl, show (primary 0xD9).length = 1 from rfl⟩
theorem jpCN16 (nn : Word) : Statement (.jpCN16 nn) :=
  ⟨rfl, show (primary 0xDA).length = 3 from rfl⟩
theorem illegalDB : Statement (.illegalDB) :=
  ⟨rfl, show (primary 0xDB).length = 1 from rfl⟩
theorem callCN16 (nn : Word) : Statement (.callCN16 nn) :=
  ⟨rfl, show (primary 0xDC).length = 3 from rfl⟩
theorem illegalDD : Statement (.illegalDD) :=
  ⟨rfl, show (primary 0xDD).length = 1 from rfl⟩
theorem sbcAN8 (n : Byte) : Statement (.sbcAN8 n) :=
  ⟨rfl, show (primary 0xDE).length = 2 from rfl⟩
theorem rst18 : Statement (.rst18) :=
  ⟨rfl, show (primary 0xDF).length = 1 from rfl⟩
theorem ldhMemN8A (n : Byte) : Statement (.ldhMemN8A n) :=
  ⟨rfl, show (primary 0xE0).length = 2 from rfl⟩
theorem popHl : Statement (.popHl) :=
  ⟨rfl, show (primary 0xE1).length = 1 from rfl⟩
theorem ldMemCA : Statement (.ldMemCA) :=
  ⟨rfl, show (primary 0xE2).length = 1 from rfl⟩
theorem illegalE3 : Statement (.illegalE3) :=
  ⟨rfl, show (primary 0xE3).length = 1 from rfl⟩
theorem illegalE4 : Statement (.illegalE4) :=
  ⟨rfl, show (primary 0xE4).length = 1 from rfl⟩
theorem pushHl : Statement (.pushHl) :=
  ⟨rfl, show (primary 0xE5).length = 1 from rfl⟩
theorem andN8 (n : Byte) : Statement (.andN8 n) :=
  ⟨rfl, show (primary 0xE6).length = 2 from rfl⟩
theorem rst20 : Statement (.rst20) :=
  ⟨rfl, show (primary 0xE7).length = 1 from rfl⟩
theorem addSpE8 (e : Byte) : Statement (.addSpE8 e) :=
  ⟨rfl, show (primary 0xE8).length = 2 from rfl⟩
theorem jpHl : Statement (.jpHl) :=
  ⟨rfl, show (primary 0xE9).length = 1 from rfl⟩
theorem ldMemN16A (nn : Word) : Statement (.ldMemN16A nn) :=
  ⟨rfl, show (primary 0xEA).length = 3 from rfl⟩
theorem illegalEB : Statement (.illegalEB) :=
  ⟨rfl, show (primary 0xEB).length = 1 from rfl⟩
theorem illegalEC : Statement (.illegalEC) :=
  ⟨rfl, show (primary 0xEC).length = 1 from rfl⟩
theorem illegalED : Statement (.illegalED) :=
  ⟨rfl, show (primary 0xED).length = 1 from rfl⟩
theorem xorN8 (n : Byte) : Statement (.xorN8 n) :=
  ⟨rfl, show (primary 0xEE).length = 2 from rfl⟩
theorem rst28 : Statement (.rst28) :=
  ⟨rfl, show (primary 0xEF).length = 1 from rfl⟩
theorem ldhAMemN8 (n : Byte) : Statement (.ldhAMemN8 n) :=
  ⟨rfl, show (primary 0xF0).length = 2 from rfl⟩
theorem popAf : Statement (.popAf) :=
  ⟨rfl, show (primary 0xF1).length = 1 from rfl⟩
theorem ldAMemC : Statement (.ldAMemC) :=
  ⟨rfl, show (primary 0xF2).length = 1 from rfl⟩
theorem di : Statement (.di) :=
  ⟨rfl, show (primary 0xF3).length = 1 from rfl⟩
theorem illegalF4 : Statement (.illegalF4) :=
  ⟨rfl, show (primary 0xF4).length = 1 from rfl⟩
theorem pushAf : Statement (.pushAf) :=
  ⟨rfl, show (primary 0xF5).length = 1 from rfl⟩
theorem orN8 (n : Byte) : Statement (.orN8 n) :=
  ⟨rfl, show (primary 0xF6).length = 2 from rfl⟩
theorem rst30 : Statement (.rst30) :=
  ⟨rfl, show (primary 0xF7).length = 1 from rfl⟩
theorem ldHlSpE8 (e : Byte) : Statement (.ldHlSpE8 e) :=
  ⟨rfl, show (primary 0xF8).length = 2 from rfl⟩
theorem ldSpHl : Statement (.ldSpHl) :=
  ⟨rfl, show (primary 0xF9).length = 1 from rfl⟩
theorem ldAMemN16 (nn : Word) : Statement (.ldAMemN16 nn) :=
  ⟨rfl, show (primary 0xFA).length = 3 from rfl⟩
theorem ei : Statement (.ei) :=
  ⟨rfl, show (primary 0xFB).length = 1 from rfl⟩
theorem illegalFC : Statement (.illegalFC) :=
  ⟨rfl, show (primary 0xFC).length = 1 from rfl⟩
theorem illegalFD : Statement (.illegalFD) :=
  ⟨rfl, show (primary 0xFD).length = 1 from rfl⟩
theorem cpN8 (n : Byte) : Statement (.cpN8 n) :=
  ⟨rfl, show (primary 0xFE).length = 2 from rfl⟩
theorem rst38 : Statement (.rst38) :=
  ⟨rfl, show (primary 0xFF).length = 1 from rfl⟩
theorem rlcB : Statement (.rlcB) :=
  ⟨rfl, show (primary 0xCB).length = 2 from rfl⟩
theorem rlcC : Statement (.rlcC) :=
  ⟨rfl, show (primary 0xCB).length = 2 from rfl⟩
theorem rlcD : Statement (.rlcD) :=
  ⟨rfl, show (primary 0xCB).length = 2 from rfl⟩
theorem rlcE : Statement (.rlcE) :=
  ⟨rfl, show (primary 0xCB).length = 2 from rfl⟩
theorem rlcH : Statement (.rlcH) :=
  ⟨rfl, show (primary 0xCB).length = 2 from rfl⟩
theorem rlcL : Statement (.rlcL) :=
  ⟨rfl, show (primary 0xCB).length = 2 from rfl⟩
theorem rlcMemHl : Statement (.rlcMemHl) :=
  ⟨rfl, show (primary 0xCB).length = 2 from rfl⟩
theorem rlcA : Statement (.rlcA) :=
  ⟨rfl, show (primary 0xCB).length = 2 from rfl⟩
theorem rrcB : Statement (.rrcB) :=
  ⟨rfl, show (primary 0xCB).length = 2 from rfl⟩
theorem rrcC : Statement (.rrcC) :=
  ⟨rfl, show (primary 0xCB).length = 2 from rfl⟩
theorem rrcD : Statement (.rrcD) :=
  ⟨rfl, show (primary 0xCB).length = 2 from rfl⟩
theorem rrcE : Statement (.rrcE) :=
  ⟨rfl, show (primary 0xCB).length = 2 from rfl⟩
theorem rrcH : Statement (.rrcH) :=
  ⟨rfl, show (primary 0xCB).length = 2 from rfl⟩
theorem rrcL : Statement (.rrcL) :=
  ⟨rfl, show (primary 0xCB).length = 2 from rfl⟩
theorem rrcMemHl : Statement (.rrcMemHl) :=
  ⟨rfl, show (primary 0xCB).length = 2 from rfl⟩
theorem rrcA : Statement (.rrcA) :=
  ⟨rfl, show (primary 0xCB).length = 2 from rfl⟩
theorem rlB : Statement (.rlB) :=
  ⟨rfl, show (primary 0xCB).length = 2 from rfl⟩
theorem rlC : Statement (.rlC) :=
  ⟨rfl, show (primary 0xCB).length = 2 from rfl⟩
theorem rlD : Statement (.rlD) :=
  ⟨rfl, show (primary 0xCB).length = 2 from rfl⟩
theorem rlE : Statement (.rlE) :=
  ⟨rfl, show (primary 0xCB).length = 2 from rfl⟩
theorem rlH : Statement (.rlH) :=
  ⟨rfl, show (primary 0xCB).length = 2 from rfl⟩
theorem rlL : Statement (.rlL) :=
  ⟨rfl, show (primary 0xCB).length = 2 from rfl⟩
theorem rlMemHl : Statement (.rlMemHl) :=
  ⟨rfl, show (primary 0xCB).length = 2 from rfl⟩
theorem rlA : Statement (.rlA) :=
  ⟨rfl, show (primary 0xCB).length = 2 from rfl⟩
theorem rrB : Statement (.rrB) :=
  ⟨rfl, show (primary 0xCB).length = 2 from rfl⟩
theorem rrC : Statement (.rrC) :=
  ⟨rfl, show (primary 0xCB).length = 2 from rfl⟩
theorem rrD : Statement (.rrD) :=
  ⟨rfl, show (primary 0xCB).length = 2 from rfl⟩
theorem rrE : Statement (.rrE) :=
  ⟨rfl, show (primary 0xCB).length = 2 from rfl⟩
theorem rrH : Statement (.rrH) :=
  ⟨rfl, show (primary 0xCB).length = 2 from rfl⟩
theorem rrL : Statement (.rrL) :=
  ⟨rfl, show (primary 0xCB).length = 2 from rfl⟩
theorem rrMemHl : Statement (.rrMemHl) :=
  ⟨rfl, show (primary 0xCB).length = 2 from rfl⟩
theorem rrA : Statement (.rrA) :=
  ⟨rfl, show (primary 0xCB).length = 2 from rfl⟩
theorem slaB : Statement (.slaB) :=
  ⟨rfl, show (primary 0xCB).length = 2 from rfl⟩
theorem slaC : Statement (.slaC) :=
  ⟨rfl, show (primary 0xCB).length = 2 from rfl⟩
theorem slaD : Statement (.slaD) :=
  ⟨rfl, show (primary 0xCB).length = 2 from rfl⟩
theorem slaE : Statement (.slaE) :=
  ⟨rfl, show (primary 0xCB).length = 2 from rfl⟩
theorem slaH : Statement (.slaH) :=
  ⟨rfl, show (primary 0xCB).length = 2 from rfl⟩
theorem slaL : Statement (.slaL) :=
  ⟨rfl, show (primary 0xCB).length = 2 from rfl⟩
theorem slaMemHl : Statement (.slaMemHl) :=
  ⟨rfl, show (primary 0xCB).length = 2 from rfl⟩
theorem slaA : Statement (.slaA) :=
  ⟨rfl, show (primary 0xCB).length = 2 from rfl⟩
theorem sraB : Statement (.sraB) :=
  ⟨rfl, show (primary 0xCB).length = 2 from rfl⟩
theorem sraC : Statement (.sraC) :=
  ⟨rfl, show (primary 0xCB).length = 2 from rfl⟩
theorem sraD : Statement (.sraD) :=
  ⟨rfl, show (primary 0xCB).length = 2 from rfl⟩
theorem sraE : Statement (.sraE) :=
  ⟨rfl, show (primary 0xCB).length = 2 from rfl⟩
theorem sraH : Statement (.sraH) :=
  ⟨rfl, show (primary 0xCB).length = 2 from rfl⟩
theorem sraL : Statement (.sraL) :=
  ⟨rfl, show (primary 0xCB).length = 2 from rfl⟩
theorem sraMemHl : Statement (.sraMemHl) :=
  ⟨rfl, show (primary 0xCB).length = 2 from rfl⟩
theorem sraA : Statement (.sraA) :=
  ⟨rfl, show (primary 0xCB).length = 2 from rfl⟩
theorem swapB : Statement (.swapB) :=
  ⟨rfl, show (primary 0xCB).length = 2 from rfl⟩
theorem swapC : Statement (.swapC) :=
  ⟨rfl, show (primary 0xCB).length = 2 from rfl⟩
theorem swapD : Statement (.swapD) :=
  ⟨rfl, show (primary 0xCB).length = 2 from rfl⟩
theorem swapE : Statement (.swapE) :=
  ⟨rfl, show (primary 0xCB).length = 2 from rfl⟩
theorem swapH : Statement (.swapH) :=
  ⟨rfl, show (primary 0xCB).length = 2 from rfl⟩
theorem swapL : Statement (.swapL) :=
  ⟨rfl, show (primary 0xCB).length = 2 from rfl⟩
theorem swapMemHl : Statement (.swapMemHl) :=
  ⟨rfl, show (primary 0xCB).length = 2 from rfl⟩
theorem swapA : Statement (.swapA) :=
  ⟨rfl, show (primary 0xCB).length = 2 from rfl⟩
theorem srlB : Statement (.srlB) :=
  ⟨rfl, show (primary 0xCB).length = 2 from rfl⟩
theorem srlC : Statement (.srlC) :=
  ⟨rfl, show (primary 0xCB).length = 2 from rfl⟩
theorem srlD : Statement (.srlD) :=
  ⟨rfl, show (primary 0xCB).length = 2 from rfl⟩
theorem srlE : Statement (.srlE) :=
  ⟨rfl, show (primary 0xCB).length = 2 from rfl⟩
theorem srlH : Statement (.srlH) :=
  ⟨rfl, show (primary 0xCB).length = 2 from rfl⟩
theorem srlL : Statement (.srlL) :=
  ⟨rfl, show (primary 0xCB).length = 2 from rfl⟩
theorem srlMemHl : Statement (.srlMemHl) :=
  ⟨rfl, show (primary 0xCB).length = 2 from rfl⟩
theorem srlA : Statement (.srlA) :=
  ⟨rfl, show (primary 0xCB).length = 2 from rfl⟩
theorem bit0B : Statement (.bit0B) :=
  ⟨rfl, show (primary 0xCB).length = 2 from rfl⟩
theorem bit0C : Statement (.bit0C) :=
  ⟨rfl, show (primary 0xCB).length = 2 from rfl⟩
theorem bit0D : Statement (.bit0D) :=
  ⟨rfl, show (primary 0xCB).length = 2 from rfl⟩
theorem bit0E : Statement (.bit0E) :=
  ⟨rfl, show (primary 0xCB).length = 2 from rfl⟩
theorem bit0H : Statement (.bit0H) :=
  ⟨rfl, show (primary 0xCB).length = 2 from rfl⟩
theorem bit0L : Statement (.bit0L) :=
  ⟨rfl, show (primary 0xCB).length = 2 from rfl⟩
theorem bit0MemHl : Statement (.bit0MemHl) :=
  ⟨rfl, show (primary 0xCB).length = 2 from rfl⟩
theorem bit0A : Statement (.bit0A) :=
  ⟨rfl, show (primary 0xCB).length = 2 from rfl⟩
theorem bit1B : Statement (.bit1B) :=
  ⟨rfl, show (primary 0xCB).length = 2 from rfl⟩
theorem bit1C : Statement (.bit1C) :=
  ⟨rfl, show (primary 0xCB).length = 2 from rfl⟩
theorem bit1D : Statement (.bit1D) :=
  ⟨rfl, show (primary 0xCB).length = 2 from rfl⟩
theorem bit1E : Statement (.bit1E) :=
  ⟨rfl, show (primary 0xCB).length = 2 from rfl⟩
theorem bit1H : Statement (.bit1H) :=
  ⟨rfl, show (primary 0xCB).length = 2 from rfl⟩
theorem bit1L : Statement (.bit1L) :=
  ⟨rfl, show (primary 0xCB).length = 2 from rfl⟩
theorem bit1MemHl : Statement (.bit1MemHl) :=
  ⟨rfl, show (primary 0xCB).length = 2 from rfl⟩
theorem bit1A : Statement (.bit1A) :=
  ⟨rfl, show (primary 0xCB).length = 2 from rfl⟩
theorem bit2B : Statement (.bit2B) :=
  ⟨rfl, show (primary 0xCB).length = 2 from rfl⟩
theorem bit2C : Statement (.bit2C) :=
  ⟨rfl, show (primary 0xCB).length = 2 from rfl⟩
theorem bit2D : Statement (.bit2D) :=
  ⟨rfl, show (primary 0xCB).length = 2 from rfl⟩
theorem bit2E : Statement (.bit2E) :=
  ⟨rfl, show (primary 0xCB).length = 2 from rfl⟩
theorem bit2H : Statement (.bit2H) :=
  ⟨rfl, show (primary 0xCB).length = 2 from rfl⟩
theorem bit2L : Statement (.bit2L) :=
  ⟨rfl, show (primary 0xCB).length = 2 from rfl⟩
theorem bit2MemHl : Statement (.bit2MemHl) :=
  ⟨rfl, show (primary 0xCB).length = 2 from rfl⟩
theorem bit2A : Statement (.bit2A) :=
  ⟨rfl, show (primary 0xCB).length = 2 from rfl⟩
theorem bit3B : Statement (.bit3B) :=
  ⟨rfl, show (primary 0xCB).length = 2 from rfl⟩
theorem bit3C : Statement (.bit3C) :=
  ⟨rfl, show (primary 0xCB).length = 2 from rfl⟩
theorem bit3D : Statement (.bit3D) :=
  ⟨rfl, show (primary 0xCB).length = 2 from rfl⟩
theorem bit3E : Statement (.bit3E) :=
  ⟨rfl, show (primary 0xCB).length = 2 from rfl⟩
theorem bit3H : Statement (.bit3H) :=
  ⟨rfl, show (primary 0xCB).length = 2 from rfl⟩
theorem bit3L : Statement (.bit3L) :=
  ⟨rfl, show (primary 0xCB).length = 2 from rfl⟩
theorem bit3MemHl : Statement (.bit3MemHl) :=
  ⟨rfl, show (primary 0xCB).length = 2 from rfl⟩
theorem bit3A : Statement (.bit3A) :=
  ⟨rfl, show (primary 0xCB).length = 2 from rfl⟩
theorem bit4B : Statement (.bit4B) :=
  ⟨rfl, show (primary 0xCB).length = 2 from rfl⟩
theorem bit4C : Statement (.bit4C) :=
  ⟨rfl, show (primary 0xCB).length = 2 from rfl⟩
theorem bit4D : Statement (.bit4D) :=
  ⟨rfl, show (primary 0xCB).length = 2 from rfl⟩
theorem bit4E : Statement (.bit4E) :=
  ⟨rfl, show (primary 0xCB).length = 2 from rfl⟩
theorem bit4H : Statement (.bit4H) :=
  ⟨rfl, show (primary 0xCB).length = 2 from rfl⟩
theorem bit4L : Statement (.bit4L) :=
  ⟨rfl, show (primary 0xCB).length = 2 from rfl⟩
theorem bit4MemHl : Statement (.bit4MemHl) :=
  ⟨rfl, show (primary 0xCB).length = 2 from rfl⟩
theorem bit4A : Statement (.bit4A) :=
  ⟨rfl, show (primary 0xCB).length = 2 from rfl⟩
theorem bit5B : Statement (.bit5B) :=
  ⟨rfl, show (primary 0xCB).length = 2 from rfl⟩
theorem bit5C : Statement (.bit5C) :=
  ⟨rfl, show (primary 0xCB).length = 2 from rfl⟩
theorem bit5D : Statement (.bit5D) :=
  ⟨rfl, show (primary 0xCB).length = 2 from rfl⟩
theorem bit5E : Statement (.bit5E) :=
  ⟨rfl, show (primary 0xCB).length = 2 from rfl⟩
theorem bit5H : Statement (.bit5H) :=
  ⟨rfl, show (primary 0xCB).length = 2 from rfl⟩
theorem bit5L : Statement (.bit5L) :=
  ⟨rfl, show (primary 0xCB).length = 2 from rfl⟩
theorem bit5MemHl : Statement (.bit5MemHl) :=
  ⟨rfl, show (primary 0xCB).length = 2 from rfl⟩
theorem bit5A : Statement (.bit5A) :=
  ⟨rfl, show (primary 0xCB).length = 2 from rfl⟩
theorem bit6B : Statement (.bit6B) :=
  ⟨rfl, show (primary 0xCB).length = 2 from rfl⟩
theorem bit6C : Statement (.bit6C) :=
  ⟨rfl, show (primary 0xCB).length = 2 from rfl⟩
theorem bit6D : Statement (.bit6D) :=
  ⟨rfl, show (primary 0xCB).length = 2 from rfl⟩
theorem bit6E : Statement (.bit6E) :=
  ⟨rfl, show (primary 0xCB).length = 2 from rfl⟩
theorem bit6H : Statement (.bit6H) :=
  ⟨rfl, show (primary 0xCB).length = 2 from rfl⟩
theorem bit6L : Statement (.bit6L) :=
  ⟨rfl, show (primary 0xCB).length = 2 from rfl⟩
theorem bit6MemHl : Statement (.bit6MemHl) :=
  ⟨rfl, show (primary 0xCB).length = 2 from rfl⟩
theorem bit6A : Statement (.bit6A) :=
  ⟨rfl, show (primary 0xCB).length = 2 from rfl⟩
theorem bit7B : Statement (.bit7B) :=
  ⟨rfl, show (primary 0xCB).length = 2 from rfl⟩
theorem bit7C : Statement (.bit7C) :=
  ⟨rfl, show (primary 0xCB).length = 2 from rfl⟩
theorem bit7D : Statement (.bit7D) :=
  ⟨rfl, show (primary 0xCB).length = 2 from rfl⟩
theorem bit7E : Statement (.bit7E) :=
  ⟨rfl, show (primary 0xCB).length = 2 from rfl⟩
theorem bit7H : Statement (.bit7H) :=
  ⟨rfl, show (primary 0xCB).length = 2 from rfl⟩
theorem bit7L : Statement (.bit7L) :=
  ⟨rfl, show (primary 0xCB).length = 2 from rfl⟩
theorem bit7MemHl : Statement (.bit7MemHl) :=
  ⟨rfl, show (primary 0xCB).length = 2 from rfl⟩
theorem bit7A : Statement (.bit7A) :=
  ⟨rfl, show (primary 0xCB).length = 2 from rfl⟩
theorem res0B : Statement (.res0B) :=
  ⟨rfl, show (primary 0xCB).length = 2 from rfl⟩
theorem res0C : Statement (.res0C) :=
  ⟨rfl, show (primary 0xCB).length = 2 from rfl⟩
theorem res0D : Statement (.res0D) :=
  ⟨rfl, show (primary 0xCB).length = 2 from rfl⟩
theorem res0E : Statement (.res0E) :=
  ⟨rfl, show (primary 0xCB).length = 2 from rfl⟩
theorem res0H : Statement (.res0H) :=
  ⟨rfl, show (primary 0xCB).length = 2 from rfl⟩
theorem res0L : Statement (.res0L) :=
  ⟨rfl, show (primary 0xCB).length = 2 from rfl⟩
theorem res0MemHl : Statement (.res0MemHl) :=
  ⟨rfl, show (primary 0xCB).length = 2 from rfl⟩
theorem res0A : Statement (.res0A) :=
  ⟨rfl, show (primary 0xCB).length = 2 from rfl⟩
theorem res1B : Statement (.res1B) :=
  ⟨rfl, show (primary 0xCB).length = 2 from rfl⟩
theorem res1C : Statement (.res1C) :=
  ⟨rfl, show (primary 0xCB).length = 2 from rfl⟩
theorem res1D : Statement (.res1D) :=
  ⟨rfl, show (primary 0xCB).length = 2 from rfl⟩
theorem res1E : Statement (.res1E) :=
  ⟨rfl, show (primary 0xCB).length = 2 from rfl⟩
theorem res1H : Statement (.res1H) :=
  ⟨rfl, show (primary 0xCB).length = 2 from rfl⟩
theorem res1L : Statement (.res1L) :=
  ⟨rfl, show (primary 0xCB).length = 2 from rfl⟩
theorem res1MemHl : Statement (.res1MemHl) :=
  ⟨rfl, show (primary 0xCB).length = 2 from rfl⟩
theorem res1A : Statement (.res1A) :=
  ⟨rfl, show (primary 0xCB).length = 2 from rfl⟩
theorem res2B : Statement (.res2B) :=
  ⟨rfl, show (primary 0xCB).length = 2 from rfl⟩
theorem res2C : Statement (.res2C) :=
  ⟨rfl, show (primary 0xCB).length = 2 from rfl⟩
theorem res2D : Statement (.res2D) :=
  ⟨rfl, show (primary 0xCB).length = 2 from rfl⟩
theorem res2E : Statement (.res2E) :=
  ⟨rfl, show (primary 0xCB).length = 2 from rfl⟩
theorem res2H : Statement (.res2H) :=
  ⟨rfl, show (primary 0xCB).length = 2 from rfl⟩
theorem res2L : Statement (.res2L) :=
  ⟨rfl, show (primary 0xCB).length = 2 from rfl⟩
theorem res2MemHl : Statement (.res2MemHl) :=
  ⟨rfl, show (primary 0xCB).length = 2 from rfl⟩
theorem res2A : Statement (.res2A) :=
  ⟨rfl, show (primary 0xCB).length = 2 from rfl⟩
theorem res3B : Statement (.res3B) :=
  ⟨rfl, show (primary 0xCB).length = 2 from rfl⟩
theorem res3C : Statement (.res3C) :=
  ⟨rfl, show (primary 0xCB).length = 2 from rfl⟩
theorem res3D : Statement (.res3D) :=
  ⟨rfl, show (primary 0xCB).length = 2 from rfl⟩
theorem res3E : Statement (.res3E) :=
  ⟨rfl, show (primary 0xCB).length = 2 from rfl⟩
theorem res3H : Statement (.res3H) :=
  ⟨rfl, show (primary 0xCB).length = 2 from rfl⟩
theorem res3L : Statement (.res3L) :=
  ⟨rfl, show (primary 0xCB).length = 2 from rfl⟩
theorem res3MemHl : Statement (.res3MemHl) :=
  ⟨rfl, show (primary 0xCB).length = 2 from rfl⟩
theorem res3A : Statement (.res3A) :=
  ⟨rfl, show (primary 0xCB).length = 2 from rfl⟩
theorem res4B : Statement (.res4B) :=
  ⟨rfl, show (primary 0xCB).length = 2 from rfl⟩
theorem res4C : Statement (.res4C) :=
  ⟨rfl, show (primary 0xCB).length = 2 from rfl⟩
theorem res4D : Statement (.res4D) :=
  ⟨rfl, show (primary 0xCB).length = 2 from rfl⟩
theorem res4E : Statement (.res4E) :=
  ⟨rfl, show (primary 0xCB).length = 2 from rfl⟩
theorem res4H : Statement (.res4H) :=
  ⟨rfl, show (primary 0xCB).length = 2 from rfl⟩
theorem res4L : Statement (.res4L) :=
  ⟨rfl, show (primary 0xCB).length = 2 from rfl⟩
theorem res4MemHl : Statement (.res4MemHl) :=
  ⟨rfl, show (primary 0xCB).length = 2 from rfl⟩
theorem res4A : Statement (.res4A) :=
  ⟨rfl, show (primary 0xCB).length = 2 from rfl⟩
theorem res5B : Statement (.res5B) :=
  ⟨rfl, show (primary 0xCB).length = 2 from rfl⟩
theorem res5C : Statement (.res5C) :=
  ⟨rfl, show (primary 0xCB).length = 2 from rfl⟩
theorem res5D : Statement (.res5D) :=
  ⟨rfl, show (primary 0xCB).length = 2 from rfl⟩
theorem res5E : Statement (.res5E) :=
  ⟨rfl, show (primary 0xCB).length = 2 from rfl⟩
theorem res5H : Statement (.res5H) :=
  ⟨rfl, show (primary 0xCB).length = 2 from rfl⟩
theorem res5L : Statement (.res5L) :=
  ⟨rfl, show (primary 0xCB).length = 2 from rfl⟩
theorem res5MemHl : Statement (.res5MemHl) :=
  ⟨rfl, show (primary 0xCB).length = 2 from rfl⟩
theorem res5A : Statement (.res5A) :=
  ⟨rfl, show (primary 0xCB).length = 2 from rfl⟩
theorem res6B : Statement (.res6B) :=
  ⟨rfl, show (primary 0xCB).length = 2 from rfl⟩
theorem res6C : Statement (.res6C) :=
  ⟨rfl, show (primary 0xCB).length = 2 from rfl⟩
theorem res6D : Statement (.res6D) :=
  ⟨rfl, show (primary 0xCB).length = 2 from rfl⟩
theorem res6E : Statement (.res6E) :=
  ⟨rfl, show (primary 0xCB).length = 2 from rfl⟩
theorem res6H : Statement (.res6H) :=
  ⟨rfl, show (primary 0xCB).length = 2 from rfl⟩
theorem res6L : Statement (.res6L) :=
  ⟨rfl, show (primary 0xCB).length = 2 from rfl⟩
theorem res6MemHl : Statement (.res6MemHl) :=
  ⟨rfl, show (primary 0xCB).length = 2 from rfl⟩
theorem res6A : Statement (.res6A) :=
  ⟨rfl, show (primary 0xCB).length = 2 from rfl⟩
theorem res7B : Statement (.res7B) :=
  ⟨rfl, show (primary 0xCB).length = 2 from rfl⟩
theorem res7C : Statement (.res7C) :=
  ⟨rfl, show (primary 0xCB).length = 2 from rfl⟩
theorem res7D : Statement (.res7D) :=
  ⟨rfl, show (primary 0xCB).length = 2 from rfl⟩
theorem res7E : Statement (.res7E) :=
  ⟨rfl, show (primary 0xCB).length = 2 from rfl⟩
theorem res7H : Statement (.res7H) :=
  ⟨rfl, show (primary 0xCB).length = 2 from rfl⟩
theorem res7L : Statement (.res7L) :=
  ⟨rfl, show (primary 0xCB).length = 2 from rfl⟩
theorem res7MemHl : Statement (.res7MemHl) :=
  ⟨rfl, show (primary 0xCB).length = 2 from rfl⟩
theorem res7A : Statement (.res7A) :=
  ⟨rfl, show (primary 0xCB).length = 2 from rfl⟩
theorem set0B : Statement (.set0B) :=
  ⟨rfl, show (primary 0xCB).length = 2 from rfl⟩
theorem set0C : Statement (.set0C) :=
  ⟨rfl, show (primary 0xCB).length = 2 from rfl⟩
theorem set0D : Statement (.set0D) :=
  ⟨rfl, show (primary 0xCB).length = 2 from rfl⟩
theorem set0E : Statement (.set0E) :=
  ⟨rfl, show (primary 0xCB).length = 2 from rfl⟩
theorem set0H : Statement (.set0H) :=
  ⟨rfl, show (primary 0xCB).length = 2 from rfl⟩
theorem set0L : Statement (.set0L) :=
  ⟨rfl, show (primary 0xCB).length = 2 from rfl⟩
theorem set0MemHl : Statement (.set0MemHl) :=
  ⟨rfl, show (primary 0xCB).length = 2 from rfl⟩
theorem set0A : Statement (.set0A) :=
  ⟨rfl, show (primary 0xCB).length = 2 from rfl⟩
theorem set1B : Statement (.set1B) :=
  ⟨rfl, show (primary 0xCB).length = 2 from rfl⟩
theorem set1C : Statement (.set1C) :=
  ⟨rfl, show (primary 0xCB).length = 2 from rfl⟩
theorem set1D : Statement (.set1D) :=
  ⟨rfl, show (primary 0xCB).length = 2 from rfl⟩
theorem set1E : Statement (.set1E) :=
  ⟨rfl, show (primary 0xCB).length = 2 from rfl⟩
theorem set1H : Statement (.set1H) :=
  ⟨rfl, show (primary 0xCB).length = 2 from rfl⟩
theorem set1L : Statement (.set1L) :=
  ⟨rfl, show (primary 0xCB).length = 2 from rfl⟩
theorem set1MemHl : Statement (.set1MemHl) :=
  ⟨rfl, show (primary 0xCB).length = 2 from rfl⟩
theorem set1A : Statement (.set1A) :=
  ⟨rfl, show (primary 0xCB).length = 2 from rfl⟩
theorem set2B : Statement (.set2B) :=
  ⟨rfl, show (primary 0xCB).length = 2 from rfl⟩
theorem set2C : Statement (.set2C) :=
  ⟨rfl, show (primary 0xCB).length = 2 from rfl⟩
theorem set2D : Statement (.set2D) :=
  ⟨rfl, show (primary 0xCB).length = 2 from rfl⟩
theorem set2E : Statement (.set2E) :=
  ⟨rfl, show (primary 0xCB).length = 2 from rfl⟩
theorem set2H : Statement (.set2H) :=
  ⟨rfl, show (primary 0xCB).length = 2 from rfl⟩
theorem set2L : Statement (.set2L) :=
  ⟨rfl, show (primary 0xCB).length = 2 from rfl⟩
theorem set2MemHl : Statement (.set2MemHl) :=
  ⟨rfl, show (primary 0xCB).length = 2 from rfl⟩
theorem set2A : Statement (.set2A) :=
  ⟨rfl, show (primary 0xCB).length = 2 from rfl⟩
theorem set3B : Statement (.set3B) :=
  ⟨rfl, show (primary 0xCB).length = 2 from rfl⟩
theorem set3C : Statement (.set3C) :=
  ⟨rfl, show (primary 0xCB).length = 2 from rfl⟩
theorem set3D : Statement (.set3D) :=
  ⟨rfl, show (primary 0xCB).length = 2 from rfl⟩
theorem set3E : Statement (.set3E) :=
  ⟨rfl, show (primary 0xCB).length = 2 from rfl⟩
theorem set3H : Statement (.set3H) :=
  ⟨rfl, show (primary 0xCB).length = 2 from rfl⟩
theorem set3L : Statement (.set3L) :=
  ⟨rfl, show (primary 0xCB).length = 2 from rfl⟩
theorem set3MemHl : Statement (.set3MemHl) :=
  ⟨rfl, show (primary 0xCB).length = 2 from rfl⟩
theorem set3A : Statement (.set3A) :=
  ⟨rfl, show (primary 0xCB).length = 2 from rfl⟩
theorem set4B : Statement (.set4B) :=
  ⟨rfl, show (primary 0xCB).length = 2 from rfl⟩
theorem set4C : Statement (.set4C) :=
  ⟨rfl, show (primary 0xCB).length = 2 from rfl⟩
theorem set4D : Statement (.set4D) :=
  ⟨rfl, show (primary 0xCB).length = 2 from rfl⟩
theorem set4E : Statement (.set4E) :=
  ⟨rfl, show (primary 0xCB).length = 2 from rfl⟩
theorem set4H : Statement (.set4H) :=
  ⟨rfl, show (primary 0xCB).length = 2 from rfl⟩
theorem set4L : Statement (.set4L) :=
  ⟨rfl, show (primary 0xCB).length = 2 from rfl⟩
theorem set4MemHl : Statement (.set4MemHl) :=
  ⟨rfl, show (primary 0xCB).length = 2 from rfl⟩
theorem set4A : Statement (.set4A) :=
  ⟨rfl, show (primary 0xCB).length = 2 from rfl⟩
theorem set5B : Statement (.set5B) :=
  ⟨rfl, show (primary 0xCB).length = 2 from rfl⟩
theorem set5C : Statement (.set5C) :=
  ⟨rfl, show (primary 0xCB).length = 2 from rfl⟩
theorem set5D : Statement (.set5D) :=
  ⟨rfl, show (primary 0xCB).length = 2 from rfl⟩
theorem set5E : Statement (.set5E) :=
  ⟨rfl, show (primary 0xCB).length = 2 from rfl⟩
theorem set5H : Statement (.set5H) :=
  ⟨rfl, show (primary 0xCB).length = 2 from rfl⟩
theorem set5L : Statement (.set5L) :=
  ⟨rfl, show (primary 0xCB).length = 2 from rfl⟩
theorem set5MemHl : Statement (.set5MemHl) :=
  ⟨rfl, show (primary 0xCB).length = 2 from rfl⟩
theorem set5A : Statement (.set5A) :=
  ⟨rfl, show (primary 0xCB).length = 2 from rfl⟩
theorem set6B : Statement (.set6B) :=
  ⟨rfl, show (primary 0xCB).length = 2 from rfl⟩
theorem set6C : Statement (.set6C) :=
  ⟨rfl, show (primary 0xCB).length = 2 from rfl⟩
theorem set6D : Statement (.set6D) :=
  ⟨rfl, show (primary 0xCB).length = 2 from rfl⟩
theorem set6E : Statement (.set6E) :=
  ⟨rfl, show (primary 0xCB).length = 2 from rfl⟩
theorem set6H : Statement (.set6H) :=
  ⟨rfl, show (primary 0xCB).length = 2 from rfl⟩
theorem set6L : Statement (.set6L) :=
  ⟨rfl, show (primary 0xCB).length = 2 from rfl⟩
theorem set6MemHl : Statement (.set6MemHl) :=
  ⟨rfl, show (primary 0xCB).length = 2 from rfl⟩
theorem set6A : Statement (.set6A) :=
  ⟨rfl, show (primary 0xCB).length = 2 from rfl⟩
theorem set7B : Statement (.set7B) :=
  ⟨rfl, show (primary 0xCB).length = 2 from rfl⟩
theorem set7C : Statement (.set7C) :=
  ⟨rfl, show (primary 0xCB).length = 2 from rfl⟩
theorem set7D : Statement (.set7D) :=
  ⟨rfl, show (primary 0xCB).length = 2 from rfl⟩
theorem set7E : Statement (.set7E) :=
  ⟨rfl, show (primary 0xCB).length = 2 from rfl⟩
theorem set7H : Statement (.set7H) :=
  ⟨rfl, show (primary 0xCB).length = 2 from rfl⟩
theorem set7L : Statement (.set7L) :=
  ⟨rfl, show (primary 0xCB).length = 2 from rfl⟩
theorem set7MemHl : Statement (.set7MemHl) :=
  ⟨rfl, show (primary 0xCB).length = 2 from rfl⟩
theorem set7A : Statement (.set7A) :=
  ⟨rfl, show (primary 0xCB).length = 2 from rfl⟩

end Sys2Proof.Laws.FirstByte
end

