-- ==== Sys2Proof/Tests/Slice0.lean ====
section
/-! SUPPORT. Tests: the ill-formed term, words written out from the encodings, one step on a small state for the vectors of 95_test_vectors.md,
and a witness for each statement that has hypotheses. -/

namespace Sys2Proof.Tests

open Sys2Proof Sys2Proof.Machine

/-! ## WellFormed -/

/-- The prefix byte is no instruction of its own (30_encoding.md R217). -/
theorem test_wf_refuses_prefix : (Instr.prefixCb 0x37).wf = false := by decide

/-- What it selects is one. -/
theorem test_wf_accepts_swap : Instr.swapA.wf = true := by decide

/-- A one-byte row without a cost, an illegal opcode, is an instruction (30_encoding.md R218). -/
theorem test_wf_accepts_illegal : Instr.illegalD3.wf = true := by decide

/-! ## Words written out from the encodings -/

/-- Loads: `01 yyy zzz` with y = 0, z = 1 (R300); `00 yyy 110`, n8 (R301); `00 110 110`, n8 (R304); `00 pp 0001`, lo, hi (R319). -/
theorem test_decode_load :
    decode [0b01000001] = .ok (.ldBC, []) ∧ decode [0b00111110, 0x5A] = .ok (.ldAN8 0x5A, []) ∧
    decode [0b00110110, 0xAB] = .ok (.ldMemHlN8 0xAB, []) ∧ decode [0b00010001, 0x34, 0x12] = .ok (.ldDeN16 0x1234, []) := ⟨rfl, rfl, rfl, rfl⟩

/-- Stack: `11 pp 0101` (R324) and `11 pp 0001` (R325, R326). -/
theorem test_decode_stack : decode [0b11100101] = .ok (.pushHl, []) ∧ decode [0b11110001] = .ok (.popAf, []) := ⟨rfl, rfl⟩

/-- ALU: `10 yyy zzz` with y = 1, z = 3 and z = 6; `11 yyy 110`, n8 with y = 7 (R400). -/
theorem test_decode_alu8 :
    decode [0b10001011] = .ok (.adcAE, []) ∧ decode [0b10110110] = .ok (.orMemHl, []) ∧
    decode [0b11111110, 0x3C] = .ok (.cpN8 0x3C, []) := ⟨rfl, rfl, rfl⟩

/-- `00 pp 1001` (R450), `00 pp 1011` (R452), `11101000`, n8 (R453). -/
theorem test_decode_alu16 :
    decode [0b00111001] = .ok (.addHlSp, []) ∧ decode [0b00011011] = .ok (.decDe, []) ∧
    decode [0b11101000, 0xFF] = .ok (.addSpE8 0xFF, []) := ⟨rfl, rfl, rfl⟩

/-- 0x17 (R482). -/
theorem test_decode_rotate_a : decode [0x17] = .ok (.rla, []) := rfl

/-- `110 cc 010`, lo, hi (R501), `001 cc 000`, e8 (R504), `110 cc 100`, lo, hi (R506), `11 yyy 111` (R510). -/
theorem test_decode_control :
    decode [0b11010010, 0x00, 0xD0] = .ok (.jpNcN16 0xD000, []) ∧ decode [0b00111000, 0x05] = .ok (.jrCE8 0x05, []) ∧
    decode [0b11001100, 0x00, 0x02] = .ok (.callZN16 0x0200, []) ∧ decode [0b11101111] = .ok (.rst28, []) := ⟨rfl, rfl, rfl, rfl⟩

/-- 0x76 (R551), 0x10 with its second byte (R554), 0xFB (R556), 0xED (R557). -/
theorem test_decode_system :
    decode [0x76] = .ok (.halt, []) ∧ decode [0x10, 0x00] = .ok (.stop 0x00, []) ∧ decode [0xFB] = .ok (.ei, []) ∧
    decode [0xED] = .ok (.illegalED, []) := ⟨rfl, rfl, rfl, rfl⟩

/-- 0xCB, then `00 110 zzz` (R610), `01 bbb zzz` (R612), `10 bbb zzz` (R613), `11 bbb zzz` (R614). -/
theorem test_decode_cb :
    decode [0xCB, 0b00110000] = .ok (.swapB, []) ∧ decode [0xCB, 0b01011110] = .ok (.bit3MemHl, []) ∧
    decode [0xCB, 0b10111111] = .ok (.res7A, []) ∧ decode [0xCB, 0b11100110] = .ok (.set4MemHl, []) := ⟨rfl, rfl, rfl, rfl⟩

/-- An instruction cut short is refused by name. -/
theorem test_decode_truncated : decode [0xCD, 0x00] = .error (.truncated 0xCD) ∧ decode [] = .error .empty := ⟨rfl, rfl⟩

/-- The table numbers a 0xCB row's prefix byte as bits 15 to 8, and an immediate's bytes above the opcode byte. -/
theorem test_table_word :
    decodeTableWord 16 0xCB7C = some .bit7H ∧ decodeTableWord 8 0x01 = some (.ldBcN16 0x0000) ∧
    decodeTableWord 24 0x1234C3 = some (.jpN16 0x1234) := ⟨rfl, rfl, rfl⟩

/-! ## One step -/

/-- The common start of 95_test_vectors.md section 2: the state at power-on with the instruction at 0xC000. -/
def codeAt (bytes : List Byte) : State :=
  { State.reset with regs := { Regs.reset with pc := 0xC000 }, mem := Memory.writeBytes [] 0xC000 bytes }

/-- What a view shows of the next state after one step. -/
def after {α : Type} (bytes : List Byte) (start : State → State) (view : State → α) : Option α :=
  match step (start (codeAt bytes)) with
  | .next t => some (view t)
  | .fault _ => none
  | .refused _ => none

/-- V40 row 1. -/
theorem test_ldBC :
    after [0x41] (fun s => (s.setReg .c 0x5A)) (fun t => (t.regs.b, t.regs.pc, t.cycles)) =
      some (0x5A, 0xC001, 4) := by decide

/-- V40 row 3. -/
theorem test_ldDN8 :
    after [0x16, 0x99] (id) (fun t => (t.regs.d, t.regs.pc, t.cycles)) =
      some (0x99, 0xC002, 8) := by decide

/-- V40 row 4. -/
theorem test_ldHMemHl_address_first :
    after [0x66] (fun s => (((s.setReg .h 0xC1).setReg .l 0x00).writeByte 0xC100 0x77)) (fun t => (t.regs.h, t.regs.pc, t.cycles)) =
      some (0x77, 0xC001, 8) := by decide

/-- V40 row 5. -/
theorem test_ldMemHlH :
    after [0x74] (fun s => ((s.setReg .h 0xC1).setReg .l 0x23)) (fun t => (t.regs.pc, t.readByte 0xC123, t.cycles)) =
      some (0xC001, 0xC1, 8) := by decide

/-- V40 row 6. -/
theorem test_ldMemHlN8 :
    after [0x36, 0xAB] (fun s => ((s.setReg .h 0xC1).setReg .l 0x00)) (fun t => (t.regs.pc, t.readByte 0xC100, t.cycles)) =
      some (0xC002, 0xAB, 12) := by decide

/-- V40 row 7. -/
theorem test_ldAMemBc :
    after [0x0A] (fun s => (((s.setReg .b 0xC1).setReg .c 0x10).writeByte 0xC110 0x42)) (fun t => (t.regs.a, t.regs.pc, t.cycles)) =
      some (0x42, 0xC001, 8) := by decide

/-- V40 row 8. -/
theorem test_ldAMemDe :
    after [0x1A] (fun s => (((s.setReg .d 0xFF).setReg .e 0x80).writeByte 0xFF80 0x24)) (fun t => (t.regs.a, t.regs.pc, t.cycles)) =
      some (0x24, 0xC001, 8) := by decide

/-- V40 row 9. -/
theorem test_ldMemBcA :
    after [0x02] (fun s => (((s.setReg .a 0x11).setReg .b 0xC1).setReg .c 0x11)) (fun t => (t.regs.pc, t.readByte 0xC111, t.cycles)) =
      some (0xC001, 0x11, 8) := by decide

/-- V40 row 10. -/
theorem test_ldMemDeA :
    after [0x12] (fun s => (((s.setReg .a 0x22).setReg .d 0xC1).setReg .e 0x12)) (fun t => (t.regs.pc, t.readByte 0xC112, t.cycles)) =
      some (0xC001, 0x22, 8) := by decide

/-- V40 row 11. -/
theorem test_ldAMemN16 :
    after [0xFA, 0x34, 0xC1] (fun s => (s.writeByte 0xC134 0x9C)) (fun t => (t.regs.a, t.regs.pc, t.cycles)) =
      some (0x9C, 0xC003, 16) := by decide

/-- V40 row 12. -/
theorem test_ldMemN16A :
    after [0xEA, 0x00, 0xD0] (fun s => (s.setReg .a 0x5E)) (fun t => (t.regs.pc, t.readByte 0xD000, t.cycles)) =
      some (0xC003, 0x5E, 16) := by decide

/-- V40 row 13. -/
theorem test_ldhAMemN8 :
    after [0xF0, 0x85] (fun s => (s.writeByte 0xFF85 0x66)) (fun t => (t.regs.a, t.regs.pc, t.cycles)) =
      some (0x66, 0xC002, 12) := by decide

/-- V40 row 14. -/
theorem test_ldhMemN8A :
    after [0xE0, 0x81] (fun s => (s.setReg .a 0x19)) (fun t => (t.regs.pc, t.readByte 0xFF81, t.cycles)) =
      some (0xC002, 0x19, 12) := by decide

/-- V40 row 15. -/
theorem test_ldAMemC :
    after [0xF2] (fun s => ((s.setReg .c 0x82).writeByte 0xFF82 0x7B)) (fun t => (t.regs.a, t.regs.pc, t.cycles)) =
      some (0x7B, 0xC001, 8) := by decide

/-- V40 row 16. -/
theorem test_ldMemCA :
    after [0xE2] (fun s => ((s.setReg .a 0x31).setReg .c 0x83)) (fun t => (t.regs.pc, t.readByte 0xFF83, t.cycles)) =
      some (0xC001, 0x31, 8) := by decide

/-- V40 row 17. -/
theorem test_ldAMemHlInc_wraps :
    after [0x2A] (fun s => (((s.setReg .h 0xFF).setReg .l 0xFF).writeByte 0xFFFF 0x1F)) (fun t => (t.regs.a, t.regs.h, t.regs.l, t.regs.pc, t.cycles)) =
      some (0x1F, 0x00, 0x00, 0xC001, 8) := by decide

/-- V40 row 18. -/
theorem test_ldAMemHlDec :
    after [0x3A] (fun s => (((s.setReg .h 0xC1).setReg .l 0x00).writeByte 0xC100 0x08)) (fun t => (t.regs.a, t.regs.h, t.regs.l, t.regs.pc, t.cycles)) =
      some (0x08, 0xC0, 0xFF, 0xC001, 8) := by decide

/-- V40 row 19. -/
theorem test_ldMemHlIncA :
    after [0x22] (fun s => (((s.setReg .a 0x44).setReg .h 0xC1).setReg .l 0xFF)) (fun t => (t.regs.h, t.regs.l, t.regs.pc, t.readByte 0xC1FF, t.cycles)) =
      some (0xC2, 0x00, 0xC001, 0x44, 8) := by decide

/-- V40 row 20. -/
theorem test_ldMemHlDecA :
    after [0x32] (fun s => (((s.setReg .a 0x55).setReg .h 0xC2).setReg .l 0x00)) (fun t => (t.regs.h, t.regs.l, t.regs.pc, t.readByte 0xC200, t.cycles)) =
      some (0xC1, 0xFF, 0xC001, 0x55, 8) := by decide

/-- V40 row 21. -/
theorem test_ldBcN16 :
    after [0x01, 0x34, 0x12] (id) (fun t => (t.regs.b, t.regs.c, t.regs.pc, t.cycles)) =
      some (0x12, 0x34, 0xC003, 12) := by decide

/-- V40 row 23. -/
theorem test_ldMemN16Sp_low_first :
    after [0x08, 0x00, 0xC2] (fun s => (s.setSp 0xABCD)) (fun t => (t.regs.pc, t.readByte 0xC200, t.readByte 0xC201, t.cycles)) =
      some (0xC003, 0xCD, 0xAB, 20) := by decide

/-- V40 row 24. -/
theorem test_ldSpHl :
    after [0xF9] (fun s => ((s.setReg .h 0xD1).setReg .l 0x23)) (fun t => (t.regs.sp, t.regs.pc, t.cycles)) =
      some (0xD123, 0xC001, 8) := by decide

/-- V40 row 25. -/
theorem test_pushBc :
    after [0xC5] (fun s => (((s.setReg .b 0x12).setReg .c 0x34).setSp 0xD000)) (fun t => (t.regs.sp, t.regs.pc, t.readByte 0xCFFE, t.readByte 0xCFFF, t.cycles)) =
      some (0xCFFE, 0xC001, 0x34, 0x12, 16) := by decide

/-- V40 row 26. -/
theorem test_pushDe_wraps :
    after [0xD5] (fun s => (((s.setReg .d 0x0F).setReg .e 0x03).setSp 0x0001)) (fun t => (t.regs.sp, t.regs.pc, t.readByte 0xFFFF, t.cycles)) =
      some (0xFFFF, 0xC001, 0x03, 16) := by decide

/-- V40 row 27. -/
theorem test_popHl :
    after [0xE1] (fun s => (((s.setSp 0xCFFE).writeByte 0xCFFE 0x78).writeByte 0xCFFF 0x56)) (fun t => (t.regs.h, t.regs.l, t.regs.sp, t.regs.pc, t.cycles)) =
      some (0x56, 0x78, 0xD000, 0xC001, 12) := by decide

/-- V40 row 28. -/
theorem test_popAf_masks :
    after [0xF1] (fun s => (((s.setSp 0xCFFE).writeByte 0xCFFE 0xFF).writeByte 0xCFFF 0x12)) (fun t => (t.regs.a, t.regs.f, t.regs.sp, t.regs.pc, t.cycles)) =
      some (0x12, 0xF0, 0xD000, 0xC001, 12) := by decide

/-- V41 row 1. -/
theorem test_addAB_carry :
    after [0x80] (fun s => (((s.setReg .a 0x80).setReg .b 0x80).mapRegs fun g => { g with f := 0x00 })) (fun t => (t.regs.a, t.regs.f, t.regs.pc, t.cycles)) =
      some (0x00, 0x90, 0xC001, 4) := by decide

/-- V41 row 3. -/
theorem test_addAA_half :
    after [0x87] (fun s => ((s.setReg .a 0x88).mapRegs fun g => { g with f := 0x00 })) (fun t => (t.regs.a, t.regs.f, t.regs.pc, t.cycles)) =
      some (0x10, 0x30, 0xC001, 4) := by decide

/-- V41 row 4. -/
theorem test_addAMemHl :
    after [0x86] (fun s => (((((s.setReg .a 0x01).setReg .h 0xC1).setReg .l 0x00).mapRegs fun g => { g with f := 0x00 }).writeByte 0xC100 0xFE)) (fun t => (t.regs.a, t.regs.pc, t.cycles)) =
      some (0xFF, 0xC001, 8) := by decide

/-- V41 row 6. -/
theorem test_adcAC_carry_in :
    after [0x89] (fun s => (((s.setReg .a 0xFF).setReg .c 0x00).mapRegs fun g => { g with f := 0x10 })) (fun t => (t.regs.a, t.regs.f, t.regs.pc, t.cycles)) =
      some (0x00, 0xB0, 0xC001, 4) := by decide

/-- V41 row 7. -/
theorem test_adcAN8_half :
    after [0xCE, 0x0E] (fun s => ((s.setReg .a 0x01).mapRegs fun g => { g with f := 0x10 })) (fun t => (t.regs.a, t.regs.f, t.regs.pc, t.cycles)) =
      some (0x10, 0x20, 0xC002, 8) := by decide

/-- V41 row 9. -/
theorem test_subN8_borrow :
    after [0xD6, 0x01] (fun s => ((s.setReg .a 0x00).mapRegs fun g => { g with f := 0x00 })) (fun t => (t.regs.a, t.regs.f, t.regs.pc, t.cycles)) =
      some (0xFF, 0x70, 0xC002, 8) := by decide

/-- V41 row 10. -/
theorem test_subB_half :
    after [0x90] (fun s => (((s.setReg .a 0x10).setReg .b 0x01).mapRegs fun g => { g with f := 0x00 })) (fun t => (t.regs.a, t.regs.f, t.regs.pc, t.cycles)) =
      some (0x0F, 0x60, 0xC001, 4) := by decide

/-- V41 row 11. -/
theorem test_sbcAA :
    after [0x9F] (fun s => ((s.setReg .a 0x42).mapRegs fun g => { g with f := 0x10 })) (fun t => (t.regs.a, t.regs.f, t.regs.pc, t.cycles)) =
      some (0xFF, 0x70, 0xC001, 4) := by decide

/-- V41 row 13. -/
theorem test_andN8 :
    after [0xE6, 0x0F] (fun s => ((s.setReg .a 0xF0).mapRegs fun g => { g with f := 0x10 })) (fun t => (t.regs.a, t.regs.f, t.regs.pc, t.cycles)) =
      some (0x00, 0xA0, 0xC002, 8) := by decide

/-- V41 row 14. -/
theorem test_xorA :
    after [0xAF] (fun s => ((s.setReg .a 0x5A).mapRegs fun g => { g with f := 0x70 })) (fun t => (t.regs.a, t.regs.f, t.regs.pc, t.cycles)) =
      some (0x00, 0x80, 0xC001, 4) := by decide

/-- V41 row 15. -/
theorem test_orMemHl :
    after [0xB6] (fun s => (((((s.setReg .a 0x00).setReg .h 0xC1).setReg .l 0x00).mapRegs fun g => { g with f := 0x00 }).writeByte 0xC100 0x00)) (fun t => (t.regs.f, t.regs.pc, t.cycles)) =
      some (0x80, 0xC001, 8) := by decide

/-- V41 row 17. -/
theorem test_cpB :
    after [0xB8] (fun s => (((s.setReg .a 0x3C).setReg .b 0x40).mapRegs fun g => { g with f := 0x00 })) (fun t => (t.regs.f, t.regs.pc, t.cycles)) =
      some (0x50, 0xC001, 4) := by decide

/-- V41 row 18. -/
theorem test_incE_wraps :
    after [0x1C] (fun s => ((s.setReg .e 0xFF).mapRegs fun g => { g with f := 0x10 })) (fun t => (t.regs.f, t.regs.e, t.regs.pc, t.cycles)) =
      some (0xB0, 0x00, 0xC001, 4) := by decide

/-- V41 row 19. -/
theorem test_incMemHl :
    after [0x34] (fun s => ((((s.setReg .h 0xC1).setReg .l 0x00).mapRegs fun g => { g with f := 0x00 }).writeByte 0xC100 0x0F)) (fun t => (t.regs.f, t.regs.pc, t.readByte 0xC100, t.cycles)) =
      some (0x20, 0xC001, 0x10, 12) := by decide

/-- V41 row 21. -/
theorem test_decA_wraps :
    after [0x3D] (fun s => ((s.setReg .a 0x00).mapRegs fun g => { g with f := 0x10 })) (fun t => (t.regs.a, t.regs.f, t.regs.pc, t.cycles)) =
      some (0xFF, 0x70, 0xC001, 4) := by decide

/-- V41 row 22. -/
theorem test_decMemHl :
    after [0x35] (fun s => ((((s.setReg .h 0xC1).setReg .l 0x00).mapRegs fun g => { g with f := 0x00 }).writeByte 0xC100 0x10)) (fun t => (t.regs.f, t.regs.pc, t.readByte 0xC100, t.cycles)) =
      some (0x60, 0xC001, 0x0F, 12) := by decide

/-- V41 row 24. -/
theorem test_daa_after_add :
    after [0x27] (fun s => ((s.setReg .a 0x9A).mapRegs fun g => { g with f := 0x00 })) (fun t => (t.regs.a, t.regs.f, t.regs.pc, t.cycles)) =
      some (0x00, 0x90, 0xC001, 4) := by decide

/-- V41 row 25. -/
theorem test_daa_after_sub :
    after [0x27] (fun s => ((s.setReg .a 0x0F).mapRegs fun g => { g with f := 0x60 })) (fun t => (t.regs.a, t.regs.f, t.regs.pc, t.cycles)) =
      some (0x09, 0x40, 0xC001, 4) := by decide

/-- V41 row 27. -/
theorem test_cpl :
    after [0x2F] (fun s => ((s.setReg .a 0x35).mapRegs fun g => { g with f := 0x90 })) (fun t => (t.regs.a, t.regs.f, t.regs.pc, t.cycles)) =
      some (0xCA, 0xF0, 0xC001, 4) := by decide

/-- V41 row 28. -/
theorem test_scf :
    after [0x37] (fun s => (s.mapRegs fun g => { g with f := 0xE0 })) (fun t => (t.regs.f, t.regs.pc, t.cycles)) =
      some (0x90, 0xC001, 4) := by decide

/-- V41 row 29. -/
theorem test_ccf :
    after [0x3F] (fun s => (s.mapRegs fun g => { g with f := 0xB0 })) (fun t => (t.regs.f, t.regs.pc, t.cycles)) =
      some (0x80, 0xC001, 4) := by decide

/-- V42 row 1. -/
theorem test_addHlBc_half :
    after [0x09] (fun s => (((((s.setReg .h 0x0F).setReg .l 0xFF).setReg .b 0x00).setReg .c 0x01).mapRegs fun g => { g with f := 0x80 })) (fun t => (t.regs.f, t.regs.h, t.regs.l, t.regs.pc, t.cycles)) =
      some (0xA0, 0x10, 0x00, 0xC001, 8) := by decide

/-- V42 row 2. -/
theorem test_addHlHl_carry :
    after [0x29] (fun s => (((s.setReg .h 0x80).setReg .l 0x00).mapRegs fun g => { g with f := 0x00 })) (fun t => (t.regs.f, t.regs.h, t.regs.pc, t.cycles)) =
      some (0x10, 0x00, 0xC001, 8) := by decide

/-- V42 row 4. -/
theorem test_incBc_wraps :
    after [0x03] (fun s => (((s.setReg .b 0xFF).setReg .c 0xFF).mapRegs fun g => { g with f := 0x00 })) (fun t => (t.regs.b, t.regs.c, t.regs.pc, t.cycles)) =
      some (0x00, 0x00, 0xC001, 8) := by decide

/-- V42 row 5. -/
theorem test_decSp_wraps :
    after [0x3B] (fun s => ((s.setSp 0x0000).mapRegs fun g => { g with f := 0x80 })) (fun t => (t.regs.sp, t.regs.pc, t.cycles)) =
      some (0xFFFF, 0xC001, 8) := by decide

/-- V42 row 8. -/
theorem test_addSpE8_negative :
    after [0xE8, 0xFF] (fun s => ((s.setSp 0x0000).mapRegs fun g => { g with f := 0x00 })) (fun t => (t.regs.sp, t.regs.pc, t.cycles)) =
      some (0xFFFF, 0xC002, 16) := by decide

/-- V42 row 9. -/
theorem test_addSpE8_carries :
    after [0xE8, 0xFF] (fun s => ((s.setSp 0x0001).mapRegs fun g => { g with f := 0x00 })) (fun t => (t.regs.f, t.regs.sp, t.regs.pc, t.cycles)) =
      some (0x30, 0x0000, 0xC002, 16) := by decide

/-- V42 row 11. -/
theorem test_ldHlSpE8_least :
    after [0xF8, 0x80] (fun s => ((s.setSp 0xD000).mapRegs fun g => { g with f := 0x00 })) (fun t => (t.regs.h, t.regs.l, t.regs.pc, t.cycles)) =
      some (0xCF, 0x80, 0xC002, 12) := by decide

/-- V43 row 2. -/
theorem test_rlca_clears_z :
    after [0x07] (fun s => ((s.setReg .a 0x00).mapRegs fun g => { g with f := 0x80 })) (fun t => (t.regs.f, t.regs.pc, t.cycles)) =
      some (0x00, 0xC001, 4) := by decide

/-- V43 row 3. -/
theorem test_rrca :
    after [0x0F] (fun s => ((s.setReg .a 0x01).mapRegs fun g => { g with f := 0x00 })) (fun t => (t.regs.a, t.regs.f, t.regs.pc, t.cycles)) =
      some (0x80, 0x10, 0xC001, 4) := by decide

/-- V43 row 4. -/
theorem test_rla_carry_in :
    after [0x17] (fun s => ((s.setReg .a 0x80).mapRegs fun g => { g with f := 0x10 })) (fun t => (t.regs.a, t.regs.pc, t.cycles)) =
      some (0x01, 0xC001, 4) := by decide

/-- V43 row 6. -/
theorem test_rra_carry_in :
    after [0x1F] (fun s => ((s.setReg .a 0x01).mapRegs fun g => { g with f := 0x10 })) (fun t => (t.regs.a, t.regs.pc, t.cycles)) =
      some (0x80, 0xC001, 4) := by decide

/-- V44 row 1. -/
theorem test_jpN16 :
    after [0xC3, 0x50, 0x01] (id) (fun t => (t.regs.pc, t.cycles)) =
      some (0x0150, 16) := by decide

/-- V44 row 2. -/
theorem test_jpNzN16_taken :
    after [0xC2, 0x00, 0xD0] (fun s => (s.mapRegs fun g => { g with f := 0x00 })) (fun t => (t.regs.pc, t.cycles)) =
      some (0xD000, 16) := by decide

/-- V44 row 3. -/
theorem test_jpNzN16_not_taken :
    after [0xC2, 0x00, 0xD0] (fun s => (s.mapRegs fun g => { g with f := 0x80 })) (fun t => (t.regs.pc, t.cycles)) =
      some (0xC003, 12) := by decide

/-- V44 row 4. -/
theorem test_jpHl :
    after [0xE9] (fun s => ((s.setReg .h 0x12).setReg .l 0x34)) (fun t => (t.regs.pc, t.cycles)) =
      some (0x1234, 4) := by decide

/-- V44 row 7. -/
theorem test_jrE8_least :
    after [0x18, 0x80] (id) (fun t => (t.regs.pc, t.cycles)) =
      some (0xBF82, 12) := by decide

/-- V44 row 8. -/
theorem test_jrCE8_taken :
    after [0x38, 0x05] (fun s => (s.mapRegs fun g => { g with f := 0x10 })) (fun t => (t.regs.pc, t.cycles)) =
      some (0xC007, 12) := by decide

/-- V44 row 9. -/
theorem test_jrCE8_not_taken :
    after [0x38, 0x05] (fun s => (s.mapRegs fun g => { g with f := 0x00 })) (fun t => (t.regs.pc, t.cycles)) =
      some (0xC002, 8) := by decide

/-- V44 row 10. -/
theorem test_callN16 :
    after [0xCD, 0x00, 0x02] (fun s => (s.setSp 0xD000)) (fun t => (t.regs.sp, t.regs.pc, t.readByte 0xCFFE, t.readByte 0xCFFF, t.cycles)) =
      some (0xCFFE, 0x0200, 0x03, 0xC0, 24) := by decide

/-- V44 row 11. -/
theorem test_callZN16_not_taken :
    after [0xCC, 0x00, 0x02] (fun s => ((s.setSp 0xD000).mapRegs fun g => { g with f := 0x00 })) (fun t => (t.regs.pc, t.cycles)) =
      some (0xC003, 12) := by decide

/-- V44 row 13. -/
theorem test_ret :
    after [0xC9] (fun s => (((s.setSp 0xCFFE).writeByte 0xCFFE 0x03).writeByte 0xCFFF 0xC0)) (fun t => (t.regs.sp, t.regs.pc, t.cycles)) =
      some (0xD000, 0xC003, 16) := by decide

/-- V44 row 14. -/
theorem test_retNc_taken :
    after [0xD0] (fun s => ((((s.setSp 0xCFFE).mapRegs fun g => { g with f := 0x00 }).writeByte 0xCFFE 0x03).writeByte 0xCFFF 0xC0)) (fun t => (t.regs.sp, t.regs.pc, t.cycles)) =
      some (0xD000, 0xC003, 20) := by decide

/-- V44 row 15. -/
theorem test_retNc_not_taken :
    after [0xD0] (fun s => ((((s.setSp 0xCFFE).mapRegs fun g => { g with f := 0x10 }).writeByte 0xCFFE 0x03).writeByte 0xCFFF 0xC0)) (fun t => (t.regs.pc, t.cycles)) =
      some (0xC001, 8) := by decide

/-- V44 row 16. -/
theorem test_reti :
    after [0xD9] (fun s => { (((s.setSp 0xCFFE).writeByte 0xCFFE 0x00).writeByte 0xCFFF 0x02) with ime := false }) (fun t => (t.regs.sp, t.regs.pc, t.ime, t.cycles)) =
      some (0xD000, 0x0200, true, 16) := by decide

/-- V44 row 17. -/
theorem test_rst38 :
    after [0xFF] (fun s => (s.setSp 0xD000)) (fun t => (t.regs.sp, t.regs.pc, t.readByte 0xCFFE, t.readByte 0xCFFF, t.cycles)) =
      some (0xCFFE, 0x0038, 0x01, 0xC0, 16) := by decide

/-- V45 row 1. -/
theorem test_nop :
    after [0x00] (id) (fun t => (t.regs.pc, t.cycles)) =
      some (0xC001, 4) := by decide

/-- V45 row 2. -/
theorem test_halt :
    after [0x76] (fun s => ((s.writeByte 0xFFFF 0x00).writeByte 0xFF0F 0x00)) (fun t => (t.regs.pc, t.halted, t.cycles)) =
      some (0xC001, true, 4) := by decide

/-- V45 row 5. -/
theorem test_di :
    after [0xF3] (fun s => { s with ime := true }) (fun t => (t.regs.pc, t.ime, t.cycles)) =
      some (0xC001, false, 4) := by decide

/-- V45 row 6. -/
theorem test_ei :
    after [0xFB] (fun s => { s with ime := false }) (fun t => (t.regs.pc, t.ime, t.cycles)) =
      some (0xC001, true, 4) := by decide

/-- V45 row 7. -/
theorem test_stop_faults :
    after [0x10, 0x00] (id) (fun t => (t.regs.pc, t.fault, t.cycles)) =
      some (0xC001, some (.illegalOpcode 0x10 0xC000), 0) := by decide

/-- V45 row 8. -/
theorem test_illegalD3 :
    after [0xD3] (id) (fun t => (t.regs.pc, t.fault, t.cycles)) =
      some (0xC001, some (.illegalOpcode 0xD3 0xC000), 0) := by decide

/-- V46 row 1. -/
theorem test_rlcB :
    after [0xCB, 0x00] (fun s => ((s.setReg .b 0x85).mapRegs fun g => { g with f := 0x00 })) (fun t => (t.regs.f, t.regs.b, t.regs.pc, t.cycles)) =
      some (0x10, 0x0B, 0xC002, 8) := by decide

/-- V46 row 3. -/
theorem test_rrcC :
    after [0xCB, 0x09] (fun s => ((s.setReg .c 0x01).mapRegs fun g => { g with f := 0x00 })) (fun t => (t.regs.f, t.regs.c, t.regs.pc, t.cycles)) =
      some (0x10, 0x80, 0xC002, 8) := by decide

/-- V46 row 4. -/
theorem test_rlD :
    after [0xCB, 0x12] (fun s => ((s.setReg .d 0x80).mapRegs fun g => { g with f := 0x00 })) (fun t => (t.regs.f, t.regs.d, t.regs.pc, t.cycles)) =
      some (0x90, 0x00, 0xC002, 8) := by decide

/-- V46 row 5. -/
theorem test_rrE :
    after [0xCB, 0x1B] (fun s => ((s.setReg .e 0x01).mapRegs fun g => { g with f := 0x10 })) (fun t => (t.regs.e, t.regs.pc, t.cycles)) =
      some (0x80, 0xC002, 8) := by decide

/-- V46 row 6. -/
theorem test_slaH :
    after [0xCB, 0x24] (fun s => ((s.setReg .h 0xC1).mapRegs fun g => { g with f := 0x00 })) (fun t => (t.regs.f, t.regs.h, t.regs.pc, t.cycles)) =
      some (0x10, 0x82, 0xC002, 8) := by decide

/-- V46 row 7. -/
theorem test_sraL :
    after [0xCB, 0x2D] (fun s => ((s.setReg .l 0x81).mapRegs fun g => { g with f := 0x00 })) (fun t => (t.regs.f, t.regs.l, t.regs.pc, t.cycles)) =
      some (0x10, 0xC0, 0xC002, 8) := by decide

/-- V46 row 8. -/
theorem test_swapA :
    after [0xCB, 0x37] (fun s => ((s.setReg .a 0xF1).mapRegs fun g => { g with f := 0x70 })) (fun t => (t.regs.a, t.regs.f, t.regs.pc, t.cycles)) =
      some (0x1F, 0x00, 0xC002, 8) := by decide

/-- V46 row 10. -/
theorem test_srlA :
    after [0xCB, 0x3F] (fun s => ((s.setReg .a 0x01).mapRegs fun g => { g with f := 0x00 })) (fun t => (t.regs.a, t.regs.f, t.regs.pc, t.cycles)) =
      some (0x00, 0x90, 0xC002, 8) := by decide

/-- V46 row 11. -/
theorem test_srlMemHl :
    after [0xCB, 0x3E] (fun s => ((((s.setReg .h 0xC1).setReg .l 0x00).mapRegs fun g => { g with f := 0x00 }).writeByte 0xC100 0xFF)) (fun t => (t.regs.f, t.regs.pc, t.readByte 0xC100, t.cycles)) =
      some (0x10, 0xC002, 0x7F, 16) := by decide

/-- V46 row 12. -/
theorem test_bit7H :
    after [0xCB, 0x7C] (fun s => ((s.setReg .h 0x80).mapRegs fun g => { g with f := 0x50 })) (fun t => (t.regs.f, t.regs.pc, t.cycles)) =
      some (0x30, 0xC002, 8) := by decide

/-- V46 row 14. -/
theorem test_bit3MemHl :
    after [0xCB, 0x5E] (fun s => ((((s.setReg .h 0xC1).setReg .l 0x00).mapRegs fun g => { g with f := 0x00 }).writeByte 0xC100 0x08)) (fun t => (t.regs.f, t.regs.pc, t.cycles)) =
      some (0x20, 0xC002, 16) := by decide

/-- V46 row 15. -/
theorem test_res0MemHl :
    after [0xCB, 0x86] (fun s => ((((s.setReg .h 0xC1).setReg .l 0x00).mapRegs fun g => { g with f := 0x90 }).writeByte 0xC100 0xFF)) (fun t => (t.regs.pc, t.readByte 0xC100, t.cycles)) =
      some (0xC002, 0xFE, 16) := by decide

/-- V46 row 17. -/
theorem test_set7A :
    after [0xCB, 0xFF] (fun s => ((s.setReg .a 0x00).mapRegs fun g => { g with f := 0x00 })) (fun t => (t.regs.a, t.regs.pc, t.cycles)) =
      some (0x80, 0xC002, 8) := by decide

/-- V46 row 18. -/
theorem test_set4MemHl :
    after [0xCB, 0xE6] (fun s => ((((s.setReg .h 0xC1).setReg .l 0x00).mapRegs fun g => { g with f := 0x00 }).writeByte 0xC100 0x00)) (fun t => (t.regs.pc, t.readByte 0xC100, t.cycles)) =
      some (0xC002, 0x10, 16) := by decide

/-- With `STOP_MODE = nop2` STOP is a two-byte instruction of 4 cycles (R554). -/
theorem test_stop_nop2 :
    after [0x10, 0x00] (fun s => { s with params := { Config.Params.default with stopMode := .nop2 } }) (fun t => (t.fault, t.regs.pc, t.cycles)) =
      some (none, 0xC002, 4) := by decide

/-- The real console's cost of `BIT b,(HL)` (R602). -/
theorem test_bit_console_cost :
    after [0xCB, 0x5E] (fun s => { s with params := { Config.Params.default with bitHlCost := .console } }) (fun t => t.cycles) = some 12 := by decide

/-- A halted tick (V45 row 3, second step). -/
theorem test_halted_tick :
    after [0x00] (fun s => { s with halted := true, iflag := 0 }) (fun t => (t.regs.pc, t.halted, t.cycles, t.dot)) =
      some (0xC000, true, 4, 4) := by decide

/-- A wake: the same step executes (V45 row 4, second step), and IF is kept. -/
theorem test_wake :
    after [0x00] (fun s => { s with halted := true, ie := 1 }) (fun t => (t.regs.pc, t.halted, t.iflag, t.cycles)) =
      some (0xC001, false, 1, 4) := by decide

/-- A waking step that faults is precise: `halted` is as before the step (R702). -/
theorem test_wake_into_fault :
    after [0xD3] (fun s => { s with halted := true, ie := 1 }) (fun t => (t.regs.pc, t.halted, t.fault, t.cycles)) =
      some (0xC001, true, some (.illegalOpcode 0xD3 0xC000), 0) := by decide

/-- A step that crosses 0xFFFF fetches on from 0x0000 (R36, R213): `LD A,n8` at 0xFFFF is IE and then the ROM window, empty here. -/
theorem test_fetch_wraps :
    after [] (fun s => { s with ie := 0x3E, regs := { s.regs with pc := 0xFFFF } }) (fun t => (t.regs.a, t.regs.pc)) =
      some (0xFF, 0x0001) := by decide

/-- `withFetchWord` makes the very next step run the word. -/
theorem test_withFetchWord :
    (match step (State.reset.withFetchWord 16 0xCB37) with
      | .next t => some (t.regs.a, t.regs.pc)
      | .fault _ => none
      | .refused _ => none) = some (0x10, 0x0102) := by decide

/-! ## The bus, the display and the driver -/

/-- An MBC1 image of `banks` banks whose first byte of bank k is k (95_test_vectors.md V20). -/
def mbc1 (banks : Nat) : State :=
  State.reset.installImage (banks * 0x4000)
    (((List.range banks).foldl (fun m k => Memory.write m (k * 0x4000) (BitVec.ofNat 8 k)) []).write 0x0147 0x01)

/-- V20: the source's example, ROM bank 5. -/
theorem test_bank_five : ((mbc1 8).writeByte 0x2000 0x05).readByte 0x4000 = 0x05 := by decide

/-- V20: 0x20 masks to 0, which is stored as 1. -/
theorem test_bank_zero : ((mbc1 8).writeByte 0x2000 0x20).readByte 0x4000 = 0x01 := by decide

/-- V20: a bank beyond the image wraps. -/
theorem test_bank_wraps : ((mbc1 8).writeByte 0x2000 0x1F).readByte 0x4000 = 0x07 := by decide

/-- V20: in mode 1 the upper selector selects the lower window's bank and leaves the upper window's. -/
theorem test_bank_mode_one :
    let s := (((mbc1 64).writeByte 0x2000 0x05).writeByte 0x4000 0x01).writeByte 0x6000 0x01
    (s.readByte 0x4000, s.readByte 0x0000) = (0x05, 0x20) := by decide

/-- V20: the external-RAM gate. -/
theorem test_eram_gate :
    let s := ((mbc1 2).writeByte 0x1FFF 0x1A).writeByte 0xA000 0x34
    (s.readByte 0xA000, (s.writeByte 0x0000 0x00).readByte 0xA000) = (0x34, 0xFF) := by decide

/-- V20: the echo and the unusable bytes. -/
theorem test_echo :
    ((State.reset.writeByte 0xFDFF 0x11).readByte 0xDDFF, (State.reset.writeByte 0xFEA0 0x99).readByte 0xFEA0) = (0x11, 0x00) := by decide

/-- OPEN_BUS and UNUSABLE_READ are parameters (00_scope.md R7). -/
theorem test_read_parameters :
    let s := State.powerOn { Config.Params.default with openBus := 0x00, unusableRead := 0xA5 } []
    (s.readByte 0x4000, s.readByte 0xFEA0, (s.installImage 0x8000 [(0x0147, 0x01)]).readByte 0xA000) = (0x00, 0xA5, 0x00) := by decide

/-- V20: STAT keeps bits 6 to 3; LYC decides bit 2. -/
theorem test_stat :
    let s := State.reset.writeByte 0xFF41 0xFF
    (s.readByte 0xFF41, (s.writeByte 0xFF45 0x01).readByte 0xFF41) = (0xFE, 0xFA) := by decide

/-- V20: a 16-bit read across the top. -/
theorem test_word_across_top : State.readWord { State.reset with ie := 0x12 } 0xFFFF = 0xFF12 := by decide

/-- A unit tick into line 144 requests V-blank (V60a). -/
theorem test_vblank :
    let t := State.tick { State.reset with ly := 143, dot := 455, iflag := 0 }
    (t.ly, t.dot, t.iflag) = (144, 0, 1) := by decide

/-- The setup of V60b with one tile of index 1 and one of index 3. -/
def scene (attr : Byte) : State :=
  { State.reset with
    mem := Memory.writeBytes (Memory.writeBytes [] 0x8000 ((List.replicate 8 [0xFF#8, 0x00]).flatten ++ List.replicate 16 0xFF#8))
      0xFE00 [16, 8, 1, attr]
    lcd := { Lcd.reset with lcdc := 0x93, bgp := 0xE4, obp0 := 0xE4, obp1 := 0xE4 } }

/-- V60b: a sprite over the background. -/
theorem test_sprite_over_background :
    [7, 8].map ((scene 0x00).pixelShade (scene 0x00).lineSprites) = [3, 1] := by decide +kernel

/-- V60b, the source's example: the priority bit keeps a background index other than 0. -/
theorem test_sprite_priority_bit :
    [7, 8].map ((scene 0x80).pixelShade (scene 0x80).lineSprites) = [1, 1] := by decide +kernel

/-- A save of the right length is loaded, any other is not (E7a): the length alone decides. -/
theorem test_save_length : saveAccepted (List.replicate 0x2000 7) = true ∧ saveAccepted (List.replicate 0x1FFF 7) = false := by
  decide +kernel

/-- What a call of `runFrame` returned, without the framebuffer: the total, the fault if any, and whether it is a frame. -/
def summary (run : FrameRun) : Nat × Option Fault × Bool :=
  match run.result with
  | .frame _ total => (total, none, true)
  | .faulted f total => (total, some f, false)
  | .stopped total => (total, none, false)

/-- P6, first frame: the fault is returned with the total of the completed steps; a stop set after the faulting step comes too late. -/
theorem test_faulted_frame :
    (runFrame [[], [], [], [.setStop true]] (codeAt [0x00, 0x00, 0xD3])).map summary =
      some (8, some (.illegalOpcode 0xD3 0xC002), false) := by decide +kernel

/-- A set stop flag ends a frame before its first step (95_test_vectors.md section 4). -/
theorem test_stopped_frame :
    (runFrame [] (codeAt [0x00] |>.setStop true)).map (fun run => (summary run, run.state.regs.pc)) = some ((0, none, false), 0xC000) := by
  decide +kernel

/-- Buttons pressed before the first of two NOPs, `cycles` read and stop set between the two: one step is taken (R753, R756). -/
theorem test_stopped_between_steps :
    (runFrame [[.setButtons 0xFE], [.readCycles, .setStop true]] (codeAt [0x00, 0x00])).map
        (fun run => (run.result, run.replies, run.state.regs.pc, run.state.p1)) =
      some (.stopped 4, [.nothing, .cycles 4, .nothing], 0xC001, 0xFE) := by decide +kernel

/-- What an operation of the host refuses. -/
def refusal : Out → Option Refusal
  | .refused r => some r
  | _ => none

/-- Load save comes after `loadGame` (R756). -/
theorem test_save_before_load :
    refusal (loadSave [] State.reset) = some .saveBeforeLoad ∧
    (match loadGame [] none State.reset with
      | .next t => refusal (loadSave [] t)
      | _ => none) = none := by decide

/-- A first `runFrame` that returned `Stopped` ends the time for loading (R756). -/
theorem test_load_after_run :
    (runFrame [] (State.reset.setStop true)).map (fun run => (refusal (loadGame [] none run.state), refusal (loadSave [] run.state))) =
      some (some .loadWhileRunning, some .loadWhileRunning) := by decide +kernel

/-- The last tick but three of the first frame, the core halted: one halted tick ends the frame. -/
def frameEnd : State :=
  { State.reset with ly := 153, dot := 452, cycles := 70220, frameTotal := 70220, halted := true, iflag := 0 }

/-- Clearing `stop` and calling again goes on to the same target (95_test_vectors.md section 4). -/
theorem test_resumed_frame :
    ((runFrame [[.setStop true]] frameEnd).bind fun run => (runFrame [[.setStop false]] run.state).map fun next => (summary run, summary next)) =
      some ((70220, none, false), (70224, none, true)) := by decide +kernel

/-- A run of one frame ends with the state at the return of `Frame` (R759). -/
theorem test_observed :
    (observedAt [[]] frameEnd).map (fun t => (t.frameTotal, t.ly, t.dot)) = some (70224, 0, 0) := by decide +kernel

/-- A run in which a call returns `Faulted` has no end (R759); nor has one that returns `Stopped`. -/
theorem test_no_end :
    observedAt [[]] (codeAt [0xD3]) = none ∧ observedAt [[[.setStop true]]] frameEnd = none := by decide +kernel

/-! ## Witnesses of hypotheses -/

/-- PushThenPop: a push and a pop at both ends of WRAM. -/
theorem test_witness_pushThenPop :
    State.reset.regs.f &&& 0x0F = 0 ∧
    ∀ sp ∈ ([0xC002, 0xE000] : List Word), 0xC002 ≤ sp.toNat ∧ sp.toNat ≤ 0xE000 ∧
      ∃ t u, exec (Instr.push .bc) (State.reset.setSp sp) = .next t ∧ exec (Instr.pop .bc) t = .next u := by
  refine ⟨by decide, fun sp h => ?_⟩
  rcases List.mem_cons.1 h with rfl | h
  · exact ⟨by decide, by decide, _, _, rfl, rfl⟩
  · obtain rfl := List.mem_singleton.1 h
    exact ⟨by decide, by decide, _, _, rfl, rfl⟩

/-- SwapTwice. -/
theorem test_witness_swapTwice :
    ∃ t u, exec (Instr.shift .swap (.reg .a)) State.reset = .next t ∧ exec (Instr.shift .swap (.reg .a)) t = .next u := ⟨_, _, rfl, rfl⟩

/-- DecodeOfEncode. -/
theorem test_witness_decodeOfEncode : (Instr.jpN16 0x0150).wf = true := by decide

/-- StepRunsDecoded: NOP at 0xC000. -/
theorem test_witness_stepRunsDecoded :
    let s := codeAt [0x00]
    s.stop = false ∧ s.fault = none ∧ s.idles = false ∧
      decode [s.readByte s.regs.pc, s.readByte (s.regs.pc + 1), s.readByte (s.regs.pc + 2)] = .ok (.nop, [0x00, 0x00]) := ⟨rfl, rfl, rfl, rfl⟩

/-- HaltedTick. -/
theorem test_witness_haltedTick :
    let s := { State.reset with halted := true }
    s.stop = false ∧ s.fault = none ∧ s.halted = true ∧ s.ie.extractLsb' 0 5 &&& s.iflag = 0 := by decide

/-- WakeFromHalt. -/
theorem test_witness_wakeFromHalt :
    let s := { State.reset with halted := true, ie := 0xE1 }
    s.halted = true ∧ s.ie.extractLsb' 0 5 &&& s.iflag ≠ 0 ∧ s.stop = false ∧ s.fault = none := by decide

/-- FaultIsPreciseAndSticky, its three clauses. -/
theorem test_witness_faultIsPreciseAndSticky :
    (let s := { codeAt [0xD3] with halted := true, ie := 1 };
      s.stop = false ∧ s.fault = none ∧ s.idles = false ∧ s.readByte s.regs.pc = 0xD3) ∧
    (let s := codeAt [0x10];
      s.params.stopMode = .fault ∧ s.stop = false ∧ s.fault = none ∧ s.idles = false ∧ s.readByte s.regs.pc = 0x10) ∧
    (∃ s : State, s.fault = some (.illegalOpcode 0xFD 0xC000)) ∧ (State.reset.setStop true).stop = true :=
  ⟨by decide, by decide, ⟨{ State.reset with fault := some (.illegalOpcode 0xFD 0xC000) }, rfl⟩, rfl⟩

/-- CostsFollowTable and FlagsFollowTable. -/
theorem test_witness_costsFollowTable :
    Instr.nop.wf = true ∧ State.reset.fault = none ∧ State.reset.params.bitHlCost = .source ∧
      ∃ t, exec .nop State.reset = .next t ∧ t.fault = none := ⟨by decide, rfl, rfl, _, rfl, rfl⟩

/-- MemoryFrame: a store to 0xC000 in front of a read of 0xC001. -/
theorem test_witness_memoryFrame :
    let s := { State.reset with regs := { Regs.reset with h := 0xC0, l := 0x00 } }
    (∃ t, exec .ldMemHlA s = .next t) ∧ ∀ a ∈ storesOf .ldMemHlA s, ¬ mayAffect a 0xC001 := by
  refine ⟨⟨_, rfl⟩, fun a h => ?_⟩
  obtain rfl := List.mem_singleton.1 h
  rintro (h | ⟨h, -⟩ | ⟨h, -⟩)
  · exact absurd h (by decide)
  · exact absurd h (by decide)
  · exact absurd h (by decide)

/-- StepKeepsCartridge and StepCost: a completed step, and a faulting one; under Direct. -/
theorem test_witness_steps :
    (∃ t, step (codeAt [0x00]) = .next t ∧ t.fault = none) ∧ (∃ t, step (codeAt [0xD3]) = .next t ∧ t.fault = some (.illegalOpcode 0xD3 0xC000)) ∧
    (codeAt [0x00]).cart.kind = .direct :=
  ⟨⟨_, rfl, rfl⟩, ⟨_, rfl, rfl⟩, rfl⟩

/-- PlainStorage: both ends of each range of its first clause, of the echo and of the unusable bytes. -/
theorem test_witness_plainStorage :
    (∀ n ∈ [0x8000, 0x9FFF, 0xC000, 0xDFFF, 0xFE00, 0xFE9F, 0xFF80, 0xFFFE, 0xFF01, 0xFF0E, 0xFF10, 0xFF3F, 0xFF46, 0xFF4C, 0xFF7F],
      0x8000 ≤ n ∧ n < 0xA000 ∨ 0xC000 ≤ n ∧ n < 0xE000 ∨ 0xFE00 ≤ n ∧ n < 0xFEA0 ∨ 0xFF80 ≤ n ∧ n < 0xFFFF ∨
        0xFF00 < n ∧ n < 0xFF80 ∧ n ≠ 0xFF0F ∧ (n < 0xFF40 ∨ n = 0xFF46 ∨ 0xFF4B < n)) ∧
    (∀ n ∈ [0xE000, 0xFDFF], 0xE000 ≤ n ∧ n < 0xFE00) ∧ ∀ n ∈ [0xFEA0, 0xFEFF], 0xFEA0 ≤ n ∧ n < 0xFF00 := by decide

/-- RomWindow and ExternalRam: both ends of their ranges, and both sides of the gate. -/
theorem test_witness_windows :
    (∀ n ∈ [0x0000, 0x1FFF, 0x2000, 0x3FFF, 0x4000, 0x5FFF, 0x6000, 0x7FFF], (BitVec.ofNat 16 n).toNat < 0x8000) ∧
    (∀ n ∈ [0xA000, 0xBFFF], 0xA000 ≤ (BitVec.ofNat 16 n).toNat ∧ (BitVec.ofNat 16 n).toNat < 0xC000) ∧
    ((mbc1 2).cart.kind = .mbc1 ∧ (mbc1 2).bank.ramEnable = false) ∧ State.reset.cart.kind = .direct := by decide +kernel

/-- FrameLength and VblankRequest: the last position of a frame, and the tick that requests V-blank. -/
theorem test_witness_position :
    (let s := { State.reset with ly := 153, dot := 455 }; s.ly < 154 ∧ s.dot < 456) ∧ (456 * 143 + 455 + 1) % 70224 = 144 * 456 := by decide

/-- WholeFrameRendered, and the column of RowShades. -/
theorem test_witness_frame :
    State.reset.ly = 0 ∧ State.reset.dot = 0 ∧ State.reset.framebuffer.length = 144 ∧ 159 < 160 := by decide +kernel

/-- RunFrameReturns, StepKeepsInv and HostKeepsInv: a state with a byte of memory that meets the invariant, and takes a step. -/
theorem test_witness_inv :
    let s := State.powerOn ⟨.nop2, .source, 0x00, 0xFF⟩ [(0xC000, 0x01)]
    s.Inv ∧ (∃ t, step s = .next t) ∧ ∃ t, loadGame [] none s = .next t :=
  ⟨{ flags := by decide
     mem := ⟨by decide, by decide⟩
     bank := by decide
     line := by decide
     dot := by decide
     frame := ⟨by decide +kernel, fun row h => by rw [List.eq_of_mem_replicate h]; rfl⟩
     total := rfl
     phase := rfl }, ⟨_, rfl⟩, ⟨_, rfl⟩⟩

/-- HostKeepsInv: load save after a `loadGame`, and a `runFrame` that returns. -/
theorem test_witness_host :
    (∃ t, loadSave [] { State.reset with launch := .loaded } = .next t) ∧ (runFrame [] (State.reset.setStop true)).isSome = true :=
  ⟨⟨_, rfl⟩, by decide +kernel⟩

/-- A byte of external RAM goes out with a store save between two other moves, at its place (R145, R756). -/
theorem test_replies :
    (({ State.reset with mem := [(0xBFFF, 0x5A)] }).replies [.setButtons 0, .storeSave, .readCycles]).map (fun (reply : HostReply) => match reply with
        | .save bytes => (bytes.length, bytes.getLast?)
        | .cycles total => (total, none)
        | .nothing => (1, none)) =
      [(1, none), (0x2000, some 0x5A), (0, none)] := by decide +kernel

/-- LoadGame, its four clauses. -/
theorem test_witness_loadGame :
    State.reset.launched.launch = .running ∧
    (State.reset.launch = .poweredOn ∧ State.reset.cycles = 0 ∧ State.reset.fault = none) ∧
    (let s := { State.reset with launch := .loaded }; s.launch = .loaded ∧ s.cycles = 0 ∧ s.fault = none) ∧
    State.reset.launch ≠ .running := ⟨rfl, ⟨rfl, rfl, rfl⟩, ⟨rfl, rfl, rfl⟩, by decide⟩

/-- ResetInv: a canonical draw, and both ends of external RAM. -/
theorem test_witness_draw :
    Memory.wf [(0x8000, 0x01), (0xC000, 0xFF)] = true ∧
    ∀ n ∈ [0xA000, 0xBFFF], 0xA000 ≤ (BitVec.ofNat 16 n).toNat ∧ (BitVec.ofNat 16 n).toNat < 0xC000 := by decide

/-- SpriteSelection: the first and the last line and column of a sprite, in both heights. -/
theorem test_witness_sprite :
    ∀ h ∈ [8, 16], ∀ ly ∈ [0, h - 1], ∀ x ∈ [0, 7],
      ((16 : Nat) : Int) - 16 ≤ ly ∧ (ly : Int) < 16 - 16 + h ∧ ((8 : Nat) : Int) - 8 ≤ x ∧ x < 8 := by decide

/-- RunFrameReturns: a state that meets the invariant. -/
theorem test_witness_frameEnd : frameEnd.Inv where
  flags := by decide
  mem := ⟨by decide, by decide⟩
  bank := by decide
  line := by decide
  dot := by decide
  frame := ⟨by decide +kernel, fun row h => by rw [List.eq_of_mem_replicate h]; rfl⟩
  total := by simp [frameEnd]
  phase := by simp [State.InPhase, frameEnd]

/-- RunFrameReturns: a run of one frame from it ends. -/
theorem test_witness_observed : ([[]] : List Schedule) ≠ [] ∧ (observedAt [[]] frameEnd).isSome = true := by decide +kernel

/-- RunFrameReturns: from it a stop set before the first step, and from a NOP one set after it; a fault returned, with the stop flag clear. -/
theorem test_witness_stopped :
    (frameEnd.hosted [.setStop true]).stop = true ∧ frameEnd.frameTotal < 70224 ∧
    (match hostedRun 1 [[], [.setStop true]] (codeAt [0x00]) with
      | .next u => u.frameTotal < 70224 && u.fault.isNone && (u.hosted [.setStop true]).stop
      | _ => false) = true ∧
    (runFrame [] (codeAt [0xD3])).map (fun run => (run.state.hosted []).stop) = some false := by decide +kernel

/-- ResetValues: both ends of its ranges of addresses. -/
theorem test_witness_resetValues :
    (∀ n ∈ [0xFF01, 0xFF3F, 0xFF46, 0xFF4C, 0xFF7F],
      let a := BitVec.ofNat 16 n
      0xFF01 ≤ a.toNat ∧ a.toNat < 0xFF80 ∧ a ≠ 0xFF0F ∧ (a.toNat < 0xFF40 ∨ a = 0xFF46 ∨ 0xFF4B < a.toNat)) ∧
    (∀ n ∈ [0x8000, 0xDFFF, 0xFE00, 0xFE9F, 0xFF80, 0xFFFE],
      0x8000 ≤ n ∧ n < 0xE000 ∨ 0xFE00 ≤ n ∧ n < 0xFEA0 ∨ 0xFF80 ≤ n ∧ n < 0xFFFF) ∧
    (∀ n ∈ [0x8000, 0x9FFF, 0xC000, 0xDFFF, 0xFE00, 0xFE9F, 0xFF80, 0xFFFE],
      let a := BitVec.ofNat 16 n
      0x8000 ≤ a.toNat ∧ a.toNat < 0xA000 ∨ 0xC000 ≤ a.toNat ∧ a.toNat < 0xE000 ∨ 0xFE00 ≤ a.toNat ∧ a.toNat < 0xFEA0 ∨
        0xFF80 ≤ a.toNat ∧ a.toNat < 0xFFFF) ∧
    ∀ n ∈ [0x0000, 0x7FFF], (BitVec.ofNat 16 n).toNat < 0x8000 := by decide

end Sys2Proof.Tests
end

section
/-! PROOF. O4: the pair reads, the field `rp`, and the 16-bit loads of an immediate, of SP into memory and of HL into SP (40_load.md R319 to R321). -/

namespace Sys2Proof.Machine

/-- A pair of `rp` never overlaps the pc. -/
theorem keepsPc_setPair (p : Pair) (v : Word) : KeepsPc fun g => g.setPair p v := by
  intro g pc
  cases p <;> rfl

theorem doLdPairImm_eq (p : Pair) (nn : Word) (s : State) :
    doLdPairImm p nn s = .next (s.retires 3 12 fun g => g.setPair p nn) :=
  complete_mapRegs 3 12 s (keepsPc_setPair p nn)

/-- An instruction that stores one word, low byte first. -/
theorem complete_writeWord (len cost : Nat) (s : State) (a v : Word) :
    complete len cost (fun t => t.writeWord a v) s = .next ((s.writeWord a v).retires len cost id) := by
  show Host.Outcome.next (((s.skip len).writeWord a v).charge cost) = _
  simp only [State.writeWord, State.writeByte_skip]
  rfl

theorem doLdMemSp_eq (nn : Word) (s : State) : doLdMemSp nn s = .next ((s.writeWord nn s.regs.sp).retires 3 20 id) :=
  complete_writeWord 3 20 s nn s.regs.sp

/-- Settles O4: each load completes as one retired state; the reads, the codes and the bytes are those of the definitions, pair by pair. -/
theorem wordLoads : Obligations.WordLoads := by
  intro p nn s
  refine ⟨⟨rfl, rfl, rfl, rfl⟩, ?code, ?read, ⟨?bytes, ?load⟩, ⟨rfl, doLdMemSp_eq nn s⟩, rfl, rfl⟩
  case code => cases p <;> rfl
  case read => cases p <;> rfl
  case bytes => cases p <;> rfl
  case load =>
    rw [exec_ldPairImm, doLdPairImm_eq]
    cases p <;> rfl

end Sys2Proof.Machine
end

section
/-! PROOF. O36: every instruction completes. What no instruction moves is one relation between two states, which every write of the machine keeps;
the instructions that move IME, `halted` or the fault are set apart, and one case split over the families settles all others. -/

namespace Sys2Proof.Machine

/-- What no instruction moves: the image, the display, the driver, the host's place and the parameters. -/
structure SameSurroundings (s t : State) : Prop where
  cart : t.cart = s.cart
  ly : t.ly = s.ly
  dot : t.dot = s.dot
  framebuffer : t.framebuffer = s.framebuffer
  frameTotal : t.frameTotal = s.frameTotal
  stop : t.stop = s.stop
  launch : t.launch = s.launch
  params : t.params = s.params

/-- A change of the core's registers, flags and totals alone stays within the surroundings. -/
theorem SameSurroundings.core (s : State) (regs : Regs) (ime halted : Bool) (fault : Option Fault) (cycles : Nat) :
    SameSurroundings s { s with regs := regs, ime := ime, halted := halted, fault := fault, cycles := cycles } :=
  ⟨rfl, rfl, rfl, rfl, rfl, rfl, rfl, rfl⟩

/-- What most instructions leave alone besides: IME, `halted` and the fault. -/
structure SameControl (s t : State) : Prop extends SameSurroundings s t where
  fault : t.fault = s.fault
  ime : t.ime = s.ime
  halted : t.halted = s.halted

namespace SameControl

variable {s t : State}

theorem refl (s : State) : SameControl s s := ⟨.core s _ _ _ _ _, rfl, rfl, rfl⟩

theorem mapRegs (h : SameControl s t) {f : Regs → Regs} : SameControl s (t.mapRegs f) := { h with }

theorem setReg (h : SameControl s t) {r : Reg8} {v : Byte} : SameControl s (t.setReg r v) := h.mapRegs

theorem setPc (h : SameControl s t) {v : Word} : SameControl s (t.setPc v) := h.mapRegs

theorem setSp (h : SameControl s t) {v : Word} : SameControl s (t.setSp v) := h.mapRegs

theorem setFlags (h : SameControl s t) {z n hc c : Bool} : SameControl s (t.setFlags z n hc c) := h.mapRegs

theorem putFlags (h : SameControl s t) {r : Flagged} : SameControl s (t.putFlags r) := h.setFlags

theorem skip (h : SameControl s t) {len : Nat} : SameControl s (t.skip len) := h.setPc

theorem dropWord (h : SameControl s t) : SameControl s t.dropWord := h.setSp

theorem charge (h : SameControl s t) {cost : Nat} : SameControl s (t.charge cost) := { h with }

theorem writeByte (h : SameControl s t) {a : Word} {v : Byte} : SameControl s (t.writeByte a v) := by
  rw [State.writeByte_shape]
  exact { h with }

theorem writeOperand (h : SameControl s t) {o : Operand8} {v : Byte} : SameControl s (t.writeOperand o v) := by
  cases o with
  | reg r => exact h.setReg
  | memHl => exact h.writeByte

theorem writeWord (h : SameControl s t) {a v : Word} : SameControl s (t.writeWord a v) := h.writeByte.writeByte

theorem push16 (h : SameControl s t) {v : Word} : SameControl s (t.push16 v) := h.setSp.writeByte.setSp.writeByte

end SameControl

/-- The outcome is a next state that differs in registers, memory and cycles alone. -/
def Completes (s : State) (o : Out) : Prop := ∃ t, o = .next t ∧ SameControl s t

section Completes

variable {s : State} {effect : State → State}

/-- An instruction completes when its effect does, from every state that only registers tell from `s`. -/
theorem completes_complete (len cost : Nat) (h : ∀ {t}, SameControl s t → SameControl s (effect t)) :
    Completes s (complete len cost effect s) :=
  ⟨_, rfl, (h (SameControl.refl s).skip).charge⟩

/-- A conditional instruction completes in both outcomes. -/
theorem completes_completeIf (cc : Cond) (len taken notTaken : Nat) (h : ∀ {t}, SameControl s t → SameControl s (effect t)) :
    Completes s (completeIf cc len taken notTaken effect s) := by
  unfold completeIf
  split
  · exact completes_complete len taken h
  · exact completes_complete len notTaken id

end Completes

section Operations

variable (s : State)

theorem completes_doLoadA (len cost : Nat) (address : Regs → Word) : Completes s (doLoadA len cost address s) :=
  completes_complete _ _ fun h => h.setReg

theorem completes_doLoadAStep (step : Word → Word) : Completes s (doLoadAStep step s) := completes_complete _ _ fun h => h.setReg.mapRegs

theorem completes_doIncMem : Completes s (doIncMem s) := completes_complete _ _ fun h => h.writeByte.putFlags

theorem completes_doDecMem : Completes s (doDecMem s) := completes_complete _ _ fun h => h.writeByte.putFlags

theorem completes_doStoreA (len cost : Nat) (address : Regs → Word) : Completes s (doStoreA len cost address s) :=
  completes_complete _ _ fun h => h.writeByte

theorem completes_doStoreAStep (step : Word → Word) : Completes s (doStoreAStep step s) :=
  completes_complete _ _ fun h => h.writeByte.mapRegs

theorem completes_doDaa : Completes s (doDaa s) := completes_complete _ _ fun h => h.setReg.putFlags

theorem completes_doCpl : Completes s (doCpl s) := completes_complete _ _ fun h => h.setReg.setFlags

theorem completes_doScf : Completes s (doScf s) := completes_complete _ _ fun h => h.setFlags

theorem completes_doCcf : Completes s (doCcf s) := completes_complete _ _ fun h => h.setFlags

theorem completes_doRotateA (k : ShiftOp) : Completes s (doRotateA k s) := completes_complete _ _ fun h => h.setReg.setFlags

theorem completes_doLdMemImm (n : Byte) : Completes s (doLdMemImm n s) := completes_complete _ _ fun h => h.writeByte

theorem completes_doLdMemSp (nn : Word) : Completes s (doLdMemSp nn s) := completes_complete _ _ fun h => h.writeWord

theorem completes_doLdSpHl : Completes s (doLdSpHl s) := completes_complete _ _ fun h => h.setSp

theorem completes_doAddSp (e : Byte) : Completes s (doAddSp e s) := completes_complete _ _ fun h => h.setSp.setFlags

theorem completes_doLdHlSp (e : Byte) : Completes s (doLdHlSp e s) := completes_complete _ _ fun h => h.mapRegs.setFlags

theorem completes_doJr (e : Byte) : Completes s (doJr e s) := completes_complete _ _ fun h => h.setPc

theorem completes_doJp (nn : Word) : Completes s (doJp nn s) := completes_complete _ _ fun h => h.setPc

theorem completes_doJpHl : Completes s (doJpHl s) := completes_complete _ _ fun h => h.setPc

theorem completes_doCall (nn : Word) : Completes s (doCall nn s) := completes_complete _ _ fun h => h.push16.setPc

theorem completes_doRet : Completes s (doRet s) := completes_complete _ _ fun h => h.dropWord.setPc

end Operations

section Prefixed

variable (b : Fin 8) (o : Operand8) (s : State)

theorem completes_doShift (k : ShiftOp) : Completes s (doShift k o s) := completes_complete _ _ fun h => h.writeOperand.setFlags

theorem completes_doBit : Completes s (doBit b o s) := completes_complete _ _ fun h => h.setFlags

theorem completes_doRes : Completes s (doRes b o s) := completes_complete _ _ fun h => h.writeOperand

theorem completes_doSet : Completes s (doSet b o s) := completes_complete _ _ fun h => h.writeOperand

/-- The secondary decode picks one of the four operations (46_cb_prefix.md R600). -/
theorem completes_doSecondary (cb : Byte) : Completes s (doSecondary cb s) := by
  unfold doSecondary
  split_ifs
  · exact completes_doShift _ s _
  · exact completes_doBit _ _ s
  · exact completes_doRes _ _ s
  · exact completes_doSet _ _ s

end Prefixed

/-- The instructions that move IME or `halted` (10_state.md R37, R38). -/
def MovesControl (i : Instr) : Prop := i = .ei ∨ i = .reti ∨ i = .di ∨ i = .halt

/-- The instructions that may fault (60_exceptions.md R700). -/
def MayFault (i : Instr) : Prop := (∃ k, i = Instr.illegal k) ∨ ∃ n, i = .stop n

/-- Every other instruction completes and keeps IME, `halted` and the fault, family by family. -/
theorem completes_exec (i : Instr) (s : State) (hc : ¬ MovesControl i) (hf : ¬ MayFault i) : Completes s (exec i s) := by
  induction i using instr_families with
  | h_ldRegReg dst r => rw [exec_ldRegReg]; exact completes_complete _ _ fun h => h.setReg
  | h_ldRegImm dst n => rw [exec_ldRegImm]; exact completes_complete _ _ fun h => h.setReg
  | h_ldRegMem dst => rw [exec_ldRegMem]; exact completes_complete _ _ fun h => h.setReg
  | h_ldMemReg r => rw [exec_ldMemReg]; exact completes_complete _ _ fun h => h.writeByte
  | h_ldPairImm p nn => rw [exec_ldPairImm]; exact completes_complete _ _ fun h => h.mapRegs
  | h_push q => rw [exec_push]; exact completes_complete _ _ fun h => h.push16
  | h_pop q => rw [exec_pop]; exact completes_complete _ _ fun h => h.dropWord.mapRegs
  | h_alu op x => rw [exec_alu]; exact completes_complete _ _ fun h => h.setReg.putFlags
  | h_incReg r => rw [exec_incReg]; exact completes_complete _ _ fun h => h.setReg.putFlags
  | h_decReg r => rw [exec_decReg]; exact completes_complete _ _ fun h => h.setReg.putFlags
  | h_addHlPair p => rw [exec_addHlPair]; exact completes_complete _ _ fun h => h.mapRegs.setFlags
  | h_incPair p => rw [exec_incPair]; exact completes_complete _ _ fun h => h.mapRegs
  | h_decPair p => rw [exec_decPair]; exact completes_complete _ _ fun h => h.mapRegs
  | h_jpCond cc nn => rw [exec_jpCond]; exact completes_completeIf _ _ _ _ fun h => h.setPc
  | h_jrCond cc e => rw [exec_jrCond]; exact completes_completeIf _ _ _ _ fun h => h.setPc
  | h_callCond cc nn => rw [exec_callCond]; exact completes_completeIf _ _ _ _ fun h => h.push16.setPc
  | h_retCond cc => rw [exec_retCond]; exact completes_completeIf _ _ _ _ fun h => h.dropWord.setPc
  | h_rst t => rw [exec_rst]; exact completes_complete _ _ fun h => h.push16.setPc
  | h_shift k o => rw [exec_shift]; exact completes_doShift o s k
  | h_bit b o => rw [exec_bit]; exact completes_doBit b o s
  | h_res b o => rw [exec_res]; exact completes_doRes b o s
  | h_set b o => rw [exec_set]; exact completes_doSet b o s
  | h_prefixCb cb => exact completes_doSecondary s cb
  | h_nop => exact completes_complete 1 4 id
  | h_rlca => exact completes_doRotateA s .rlc
  | h_rrca => exact completes_doRotateA s .rrc
  | h_rla => exact completes_doRotateA s .rl
  | h_rra => exact completes_doRotateA s .rr
  | h_daa => exact completes_doDaa s
  | h_cpl => exact completes_doCpl s
  | h_scf => exact completes_doScf s
  | h_ccf => exact completes_doCcf s
  | h_ldMemBcA => exact completes_doStoreA s 1 8 Regs.bc
  | h_ldMemDeA => exact completes_doStoreA s 1 8 Regs.de
  | h_ldhMemN8A n => exact completes_doStoreA s 2 12 (fun _ => highPage n)
  | h_ldMemCA => exact completes_doStoreA s 1 8 (fun g => highPage g.c)
  | h_ldMemN16A nn => exact completes_doStoreA s 3 16 (fun _ => nn)
  | h_ldMemHlN8 n => exact completes_doLdMemImm s n
  | h_ldMemHlIncA => exact completes_doStoreAStep s (· + 1)
  | h_ldMemHlDecA => exact completes_doStoreAStep s (· - 1)
  | h_ldMemN16Sp nn => exact completes_doLdMemSp s nn
  | h_ldAMemBc => exact completes_doLoadA s 1 8 Regs.bc
  | h_ldAMemDe => exact completes_doLoadA s 1 8 Regs.de
  | h_ldhAMemN8 n => exact completes_doLoadA s 2 12 (fun _ => highPage n)
  | h_ldAMemC => exact completes_doLoadA s 1 8 (fun g => highPage g.c)
  | h_ldAMemN16 nn => exact completes_doLoadA s 3 16 (fun _ => nn)
  | h_ldAMemHlInc => exact completes_doLoadAStep s (· + 1)
  | h_ldAMemHlDec => exact completes_doLoadAStep s (· - 1)
  | h_incMemHl => exact completes_doIncMem s
  | h_decMemHl => exact completes_doDecMem s
  | h_ldSpHl => exact completes_doLdSpHl s
  | h_addSpE8 e => exact completes_doAddSp s e
  | h_ldHlSpE8 e => exact completes_doLdHlSp s e
  | h_jrE8 e => exact completes_doJr s e
  | h_jpN16 nn => exact completes_doJp s nn
  | h_jpHl => exact completes_doJpHl s
  | h_callN16 nn => exact completes_doCall s nn
  | h_ret => exact completes_doRet s
  | h_ei | h_reti | h_di | h_halt => simp [MovesControl] at hc
  | h_illegal k => exact absurd (.inl ⟨k, rfl⟩) hf
  | h_stop n => exact absurd (.inr ⟨n, rfl⟩) hf

/-- `t` records the fault of `i`, which is an illegal opcode, or STOP where the parameter makes it one (60_exceptions.md R700, R702). -/
def Raised (i : Instr) (s t : State) : Prop :=
  ((∃ k, i = Instr.illegal k) ∨ (∃ n, i = .stop n) ∧ s.params.stopMode = .fault) ∧
    t.fault = some (.illegalOpcode ((encode i).headD 0) s.regs.pc) ∧ t.cycles = s.cycles

/-- What an instruction may do to IME, `halted` and the fault (10_state.md R37, R38, 60_exceptions.md R700), all around kept. -/
structure Answers (i : Instr) (s t : State) : Prop extends SameSurroundings s t where
  fault : t.fault = s.fault ∨ Raised i s t
  ime : t.ime = if i = .ei ∨ i = .reti then true else if i = .di then false else s.ime
  halted : t.halted = if i = .halt then true else s.halted

section Answers

variable {i : Instr} {s t : State}

/-- Of an instruction that moves neither IME nor `halted`, only the fault is left to say. -/
theorem Answers.of_still (hi : ¬ MovesControl i) (around : SameSurroundings s t) (ime : t.ime = s.ime) (halted : t.halted = s.halted)
    (fault : t.fault = s.fault ∨ Raised i s t) : Answers i s t := by
  simp only [MovesControl, not_or] at hi
  obtain ⟨ei, reti, di, halt⟩ := hi
  exact { around with fault, ime := by simp [ei, reti, di, ime], halted := by simp [halt, halted] }

theorem Answers.of_completes (hi : ¬ MovesControl i) (h : Completes s (exec i s)) : ∃ t, exec i s = .next t ∧ Answers i s t := by
  obtain ⟨t, ht, same⟩ := h
  exact ⟨t, ht, .of_still hi same.toSameSurroundings same.ime same.halted (.inl same.fault)⟩

/-- Where the fault is taken, with the instruction's own first byte. -/
theorem Answers.of_raises (hi : ¬ MovesControl i) (may : (∃ k, i = Instr.illegal k) ∨ (∃ n, i = .stop n) ∧ s.params.stopMode = .fault)
    (h : exec i s = raiseIllegal ((encode i).headD 0) s) : ∃ t, exec i s = .next t ∧ Answers i s t := by
  rw [h, raiseIllegal_eq]
  exact ⟨_, rfl, .of_still hi (.core s _ _ _ _ _) rfl rfl (.inr ⟨may, rfl, rfl⟩)⟩

end Answers

/-- The opcode byte of an illegal opcode is the whole of its encoding (30_encoding.md R216). -/
theorem encode_illegal (k : IllegalOp) : encode (Instr.illegal k) = [k.code] := by cases k <;> rfl

theorem not_movesControl_illegal (k : IllegalOp) : ¬ MovesControl (Instr.illegal k) := by
  cases k <;> simp [MovesControl, Instr.illegal]

theorem not_movesControl_stop (n : Byte) : ¬ MovesControl (.stop n) := by simp [MovesControl]

theorem answers_illegal (k : IllegalOp) (s : State) : ∃ t, exec (Instr.illegal k) s = .next t ∧ Answers (Instr.illegal k) s t :=
  Answers.of_raises (not_movesControl_illegal k) (.inl ⟨k, rfl⟩) (by rw [exec_illegal, encode_illegal]; rfl)

/-- STOP faults or is a no-operation, by the parameter (45_system.md R554). -/
theorem answers_stop (n : Byte) (s : State) : ∃ t, exec (.stop n) s = .next t ∧ Answers (.stop n) s t := by
  have run : exec (.stop n) s = doStop s := rfl
  cases mode : s.params.stopMode with
  | fault =>
    refine Answers.of_raises (not_movesControl_stop n) (.inr ⟨⟨n, rfl⟩, mode⟩) ?_
    rw [run, doStop, mode]
    rfl
  | nop2 =>
    refine Answers.of_completes (not_movesControl_stop n) ?_
    rw [run, doStop, mode]
    exact completes_complete 2 4 id

/-- DI and EI set IME at once (45_system.md R555, R556). -/
theorem doSetIme_eq (on : Bool) (s : State) : doSetIme on s = .next { s.retires 1 4 id with ime := on } := rfl

/-- HALT sets `halted` (45_system.md R551). -/
theorem doHalt_eq (s : State) : doHalt s = .next { s.retires 1 4 id with halted := true } := rfl

/-- RETI is a return that sets IME (44_control.md R509). -/
theorem doReti_eq (s : State) :
    doReti s = .next { ((s.skip 1).dropWord.setPc (s.skip 1).popValue).charge 16 with ime := true } := rfl

theorem answers_reti (s : State) : ∃ t, exec .reti s = .next t ∧ Answers .reti s t := by
  have same : SameControl s (((s.skip 1).dropWord.setPc (s.skip 1).popValue).charge 16) :=
    (SameControl.refl s).skip.dropWord.setPc.charge
  exact ⟨_, doReti_eq s, { same.toSameSurroundings with }, .inl same.fault, by simp, by simpa using same.halted⟩

theorem answers_movesControl {i : Instr} (hi : MovesControl i) (s : State) : ∃ t, exec i s = .next t ∧ Answers i s t := by
  obtain rfl | rfl | rfl | rfl := hi
  · exact ⟨_, doSetIme_eq true s, .core s _ _ _ _ _, .inl rfl, by simp, by simp [State.retires]⟩
  · exact answers_reti s
  · exact ⟨_, doSetIme_eq false s, .core s _ _ _ _ _, .inl rfl, by simp, by simp [State.retires]⟩
  · exact ⟨_, doHalt_eq s, .core s _ _ _ _ _, .inl rfl, by simp [State.retires], by simp⟩

theorem exec_answers (i : Instr) (s : State) : ∃ t, exec i s = .next t ∧ Answers i s t := by
  by_cases hc : MovesControl i
  · exact answers_movesControl hc s
  by_cases hf : MayFault i
  · obtain ⟨k, rfl⟩ | ⟨n, rfl⟩ := hf
    · exact answers_illegal k s
    · exact answers_stop n s
  · exact Answers.of_completes hc (completes_exec i s hc hf)

/-- Settles O36: the four instructions that move IME or `halted`, those that may fault, and all others. -/
theorem everyInstructionCompletes : Obligations.EveryInstructionCompletes := by
  intro i s
  obtain ⟨t, ht, ans⟩ := exec_answers i s
  exact ⟨t, ht, ans.fault, ans.ime, ans.halted, ans.cart, ans.ly, ans.dot, ans.framebuffer, ans.frameTotal, ans.stop, ans.launch, ans.params⟩

end Sys2Proof.Machine
end

section
/-! PROOF. O42 to O46: the address space (20_memory.md). The region map is read once, as a table of first and last addresses; then a read and a write are
said once for each kind of region, and each obligation is those equations at its own addresses. -/

namespace Sys2Proof.Machine

/-- The row of R101 as a table: its first address, and the first address past it. -/
def Region.bounds : Region → Nat × Nat
  | .romLow => (0x0000, 0x4000)
  | .romHigh => (0x4000, 0x8000)
  | .vram => (0x8000, 0xA000)
  | .eram => (0xA000, 0xC000)
  | .wram => (0xC000, 0xE000)
  | .echo => (0xE000, 0xFE00)
  | .oam => (0xFE00, 0xFEA0)
  | .unusable => (0xFEA0, 0xFF00)
  | .io => (0xFF00, 0xFF80)
  | .hram => (0xFF80, 0xFFFF)
  | .ie => (0xFFFF, 0x10000)

/-- The rows do not overlap: an address within a row's bounds is of that row. -/
theorem regionOf_eq {n : Nat} (r : Region) (lo : r.bounds.1 ≤ n) (hi : n < r.bounds.2) : regionOf n = r := by
  cases r <;> grind [regionOf, Region.bounds]

/-- The bytes of the I/O block that are no register of the model (R124, R131). -/
theorem ioRegOf_eq_plain {n : Nat} (first : 0xFF00 < n) (notIf : n ≠ 0xFF0F) (notLcd : n < 0xFF40 ∨ n = 0xFF46 ∨ 0xFF4B < n) :
    ioRegOf n = .plain := by
  unfold ioRegOf
  iterate 13 rw [if_neg (by omega)]

section Regions

variable {s : State} {a : Word} {v : Byte}

/-- An access to a region whose bytes stand in memory at their own address (R119, R120, R122). -/
theorem State.access_of_storage (h : regionOf a.toNat = .vram ∨ regionOf a.toNat = .wram ∨ regionOf a.toNat = .oam ∨ regionOf a.toNat = .hram) :
    s.readByte a = s.mem.read a.toNat ∧ s.writeByte a v = s.store a.toNat v := by
  rcases h with h | h | h | h <;> simp [State.readByte, State.writeByte, h]

theorem State.readByte_io (h : regionOf a.toNat = .io) : s.readByte a = s.ioRead a.toNat := by simp [State.readByte, h]

theorem State.writeByte_io (h : regionOf a.toNat = .io) : s.writeByte a v = s.ioWrite a.toNat v := by simp [State.writeByte, h]

theorem State.access_of_plain (h : regionOf a.toNat = .io) (plain : ioRegOf a.toNat = .plain) :
    s.readByte a = s.mem.read a.toNat ∧ s.writeByte a v = s.store a.toNat v := by
  simp [State.readByte_io h, State.writeByte_io h, State.ioRead, State.ioWrite, plain]

/-- External RAM answers as memory while `eramOpen` holds (R113, R116). -/
theorem State.access_of_eramOpen (h : regionOf a.toNat = .eram) (gate : s.eramOpen = true) :
    s.readByte a = s.mem.read a.toNat ∧ s.writeByte a v = s.store a.toNat v := by
  simp [State.readByte, State.writeByte, h, gate]

theorem State.access_of_eramClosed (h : regionOf a.toNat = .eram) (gate : s.eramOpen = false) :
    s.readByte a = s.params.openBus ∧ s.writeByte a v = s := by
  simp [State.readByte, State.writeByte, h, gate]

theorem State.access_of_echo (h : regionOf a.toNat = .echo) :
    s.readByte a = s.mem.read (a.toNat - 0x2000) ∧ s.writeByte a v = s.store (a.toNat - 0x2000) v := by
  simp [State.readByte, State.writeByte, h]

theorem State.access_of_unusable (h : regionOf a.toNat = .unusable) :
    s.readByte a = s.params.unusableRead ∧ s.writeByte a v = s := by
  simp [State.readByte, State.writeByte, h]

theorem State.access_of_rom (h : regionOf a.toNat = .romLow ∨ regionOf a.toNat = .romHigh) :
    s.readByte a = s.cart.read s.params.openBus (romOffset s.cart.kind s.bank a.toNat) ∧ s.writeByte a v = s.romControl a.toNat v := by
  rcases h with h | h <;> simp [State.readByte, State.writeByte, h]

/-- A write that is a store to its own address reads back, where the address also reads from memory, and changes no other byte. -/
theorem State.writeByte_stores (write : s.writeByte a v = s.store a.toNat v)
    (read : (s.store a.toNat v).readByte a = (s.store a.toNat v).mem.read a.toNat) :
    (s.writeByte a v).readByte a = v ∧
      ∃ m, s.writeByte a v = { s with mem := m } ∧ ∀ k, k ≠ a.toNat → m.read k = s.mem.read k := by
  refine ⟨?_, s.mem.write a.toNat v, write, fun k hk => Memory.read_write_other _ v hk⟩
  rw [write, read]
  exact Memory.read_write_same s.mem a.toNat v

/-- The echo answers as the WRAM byte 0x2000 below (R121). -/
theorem State.echo_eq_wram (lo : 0xE000 ≤ a.toNat) (hi : a.toNat < 0xFE00) :
    s.readByte a = s.readByte (a - 0x2000) ∧ s.writeByte a v = s.writeByte (a - 0x2000) v := by
  have below : (a - 0x2000).toNat = a.toNat - 0x2000 := BitVec.toNat_sub_of_le (BitVec.le_def.mpr (Nat.le_trans (by decide) lo))
  have echo := State.access_of_echo (s := s) (v := v) (regionOf_eq .echo lo hi)
  have wram := State.access_of_storage (s := s) (v := v) (a := a - 0x2000)
    (.inr (.inl (regionOf_eq .wram (by simp only [Region.bounds]; omega) (by simp only [Region.bounds]; omega))))
  rw [below] at wram
  exact ⟨echo.1.trans wram.1.symm, echo.2.trans wram.2.symm⟩

end Regions

/-- Settles O42: an access to each of the five ranges is one to memory; the button byte, the echo and the unusable bytes by their own rules. -/
theorem plainStorage : Obligations.PlainStorage := by
  intro s a v n
  refine ⟨fun range => ?storage, ⟨rfl, rfl, rfl⟩, fun ⟨lo, hi⟩ => State.echo_eq_wram lo hi,
    fun ⟨lo, hi⟩ => State.access_of_unusable (regionOf_eq .unusable lo hi), rfl⟩
  case storage =>
    have access (t : State) : t.readByte a = t.mem.read a.toNat ∧ t.writeByte a v = t.store a.toNat v := by
      rcases range with ⟨lo, hi⟩ | ⟨lo, hi⟩ | ⟨lo, hi⟩ | ⟨lo, hi⟩ | ⟨lo, hi, notIf, notLcd⟩
      · exact State.access_of_storage (.inl (regionOf_eq .vram lo hi))
      · exact State.access_of_storage (.inr (.inl (regionOf_eq .wram lo hi)))
      · exact State.access_of_storage (.inr (.inr (.inl (regionOf_eq .oam lo hi))))
      · exact State.access_of_storage (.inr (.inr (.inr (regionOf_eq .hram lo hi))))
      · exact State.access_of_plain (regionOf_eq .io (Nat.le_of_lt lo) hi) (ioRegOf_eq_plain lo notIf notLcd)
    exact State.writeByte_stores (access s).2 (access _).1

/-- The gate of external RAM as a condition on the kind and the latch (R113, R116). -/
theorem State.eramOpen_iff (s : State) : s.eramOpen = true ↔ s.cart.kind = .direct ∨ s.bank.ramEnable = true := by
  unfold State.eramOpen
  cases s.cart.kind <;> simp

/-- Settles O44: by the two sides of the gate, which a store to memory does not move. -/
theorem externalRam : Obligations.ExternalRam := by
  intro s a v lo hi
  have region : regionOf a.toNat = .eram := regionOf_eq .eram lo hi
  split
  next gate =>
    have gateOpen : s.eramOpen = true := s.eramOpen_iff.mpr gate
    have gateStaysOpen : (s.store a.toNat v).eramOpen = true := gateOpen
    exact State.writeByte_stores (State.access_of_eramOpen region gateOpen).2 (State.access_of_eramOpen (v := v) region gateStaysOpen).1
  next gate =>
    exact State.access_of_eramClosed region (Bool.eq_false_iff.mpr (mt s.eramOpen_iff.mp gate))

/-- The two bits of `upper` above the five of the bank register (R106), as a sum. -/
theorem upper_or_romBank (upper : BitVec 2) (romBank : BitVec 5) :
    upper.toNat <<< 5 ||| romBank.toNat = upper.toNat * 32 + romBank.toNat := by
  rw [← Nat.shiftLeft_add_eq_or_of_lt romBank.isLt, Nat.shiftLeft_eq]

/-- The offset of the two windows under MBC1, with the spec's shift and `or` (R105, R106). -/
theorem romOffset_mbc1 (bank : Banking) (n : Nat) : romOffset .mbc1 bank n =
    if n < 0x4000 then (if bank.mode = 1 then bank.upper.toNat <<< 5 else 0) * 0x4000 + n
    else (if bank.mode = 0 then bank.upper.toNat <<< 5 ||| bank.romBank.toNat else bank.romBank.toNat) * 0x4000 + (n - 0x4000) := by
  rw [upper_or_romBank, Nat.shiftLeft_eq]
  rfl

/-- The bank register sees five bits of the byte (R109). -/
theorem setWidth_five_eq_zero_iff (v : Byte) : v.setWidth 5 = 0 ↔ v &&& 0x1F = 0 := by
  have mask : (v &&& 0x1F).toNat = v.toNat % 32 := Nat.and_two_pow_sub_one_eq_mod v.toNat 5
  rw [← BitVec.toNat_inj, ← BitVec.toNat_inj, mask, BitVec.toNat_setWidth]
  rfl

/-- The four control windows (R108 to R111). -/
theorem Banking.control_eq (bank : Banking) (n : Nat) (v : Byte) : bank.control n v =
    if n < 0x2000 then { bank with ramEnable := v &&& 0x0F = 0x0A }
    else if n < 0x4000 then { bank with romBank := if v &&& 0x1F = 0 then 1 else v.extractLsb' 0 5 }
    else if n < 0x6000 then { bank with upper := v.extractLsb' 0 2 }
    else { bank with mode := v.extractLsb' 0 1 } := by
  simp only [Banking.control, ← setWidth_five_eq_zero_iff, BitVec.setWidth_eq_extractLsb' (show 5 ≤ 8 by decide),
    BitVec.setWidth_eq_extractLsb' (show 2 ≤ 8 by decide), BitVec.setWidth_eq_extractLsb' (show 1 ≤ 8 by decide)]

/-- Settles O43: a read goes to the offset of its window, a write to the banking, by the cartridge's kind. -/
theorem romWindow : Obligations.RomWindow := by
  intro s a v hi n offset
  have region : regionOf a.toNat = .romLow ∨ regionOf a.toNat = .romHigh := by
    rcases Nat.lt_or_ge a.toNat 0x4000 with low | high
    · exact .inl (regionOf_eq .romLow (Nat.zero_le _) low)
    · exact .inr (regionOf_eq .romHigh high hi)
  obtain ⟨read, write⟩ := State.access_of_rom (s := s) (v := v) region
  have sameOffset : romOffset s.cart.kind s.bank n = offset := by
    dsimp only [offset]
    cases s.cart.kind with
    | direct => rfl
    | mbc1 => exact romOffset_mbc1 s.bank n
  refine ⟨rfl, ?read, ?write⟩
  case read => rw [read, sameOffset, Cartridge.read]
  case write =>
    rw [write, State.romControl, Banking.control_eq]
    cases s.cart.kind <;> rfl

/-- The layout of STAT (R128). -/
theorem stat_layout (sel : BitVec 4) (coincides : Bool) (mode : BitVec 2) :
    (1#1 ++ sel) ++ (BitVec.ofBool coincides ++ mode) =
      0x80#8 ||| (sel.setWidth 8 <<< 3) ||| ((if coincides then 1#8 else 0#8) <<< 2) ||| mode.setWidth 8 := by
  revert sel coincides mode
  decide

/-- The number of the mode, from the position (R721, R727). -/
theorem ppuMode_number (ly dot : Nat) : (ppuMode ly dot).number.setWidth 8 =
    if 144 ≤ ly then 1#8 else if dot < 80 then 2#8 else if dot < 252 then 3#8 else 0#8 := by
  unfold ppuMode
  split_ifs <;> rfl

theorem State.statByte_eq (s : State) : s.statByte =
    0x80#8 ||| (s.lcd.statSel.setWidth 8 <<< 3) ||| ((if BitVec.ofNat 8 s.ly = s.lcd.lyc then 1#8 else 0#8) <<< 2) |||
      (if 144 ≤ s.ly then 1#8 else if s.dot < 80 then 2#8 else if s.dot < 252 then 3#8 else 0#8) := by
  rw [State.statByte, stat_layout, ppuMode_number]
  simp only [decide_eq_true_eq]

/-- The unused bits of IF read 1 (R125). -/
theorem iflag_layout (iflag : BitVec 5) : 0b111#3 ++ iflag = 0xE0 ||| iflag.setWidth 8 := by
  revert iflag
  decide

/-- Settles O45: each register stands at its own address of the I/O block, IE at its own; IF and STAT by their layouts. -/
theorem ioRegisters : Obligations.IoRegisters := by
  intro s v
  refine ⟨⟨iflag_layout s.iflag, ?ifWrite⟩, ⟨rfl, rfl⟩, ⟨s.statByte_eq, rfl⟩, ⟨rfl, rfl⟩, ⟨rfl, rfl⟩, ⟨rfl, rfl⟩, ⟨rfl, rfl⟩,
    ⟨rfl, rfl⟩, ⟨rfl, rfl⟩, ⟨rfl, rfl⟩, ⟨rfl, rfl⟩, ⟨rfl, rfl⟩, ⟨rfl, rfl⟩⟩
  case ifWrite =>
    rw [← BitVec.setWidth_eq_extractLsb' (by decide)]
    rfl

theorem word_eq_or (hi lo : Byte) : word hi lo = lo.setWidth 16 ||| hi.setWidth 16 <<< 8 := by
  rw [word, BitVec.append_def, BitVec.shiftLeftZeroExtend_eq, BitVec.or_comm]
  rfl

theorem addOne_eq_ofNat_mod (a : Word) : a + 1 = BitVec.ofNat 16 ((a.toNat + 1) % 65536) := by bv_omega

/-- Settles O46: the high byte stands at the next address modulo 2^16, and the two bytes do not overlap in the word. -/
theorem wordAccess : Obligations.WordAccess := by
  intro s a v
  rw [← addOne_eq_ofNat_mod]
  exact ⟨word_eq_or _ _, rfl, rfl⟩

end Sys2Proof.Machine
end

section
/-! PROOF. O5: PUSH and the field `rp2` (40_load.md R322, R324, 30_encoding.md R205). -/

namespace Sys2Proof.Machine

/-- The pc past the opcode byte is no part of a pair of `rp2`, so the word pushed is that of the state before. -/
theorem doPush_eq (q : StackPair) (s : State) :
    doPush q s = .next ((s.pushed (s.regs.stackPair q)).retires 1 16 fun g => { g with sp := s.regs.sp - 2 }) := by
  rw [← complete_push]
  cases q <;> rfl

/-- Settles O5: the push of the pair as one retired state; code, byte and value by the definitions, pair by pair. -/
theorem pushStoresPair : Obligations.PushStoresPair := by
  intro q s v
  have value : s.regs.stackPair q = v := by cases q <;> rfl
  refine ⟨?code, ?byte, ?push⟩
  case code => cases q <;> rfl
  case byte => cases q <;> rfl
  case push => rw [exec_push, doPush_eq, value]

end Sys2Proof.Machine
end

section
/-! PROOF. O18: the four conditions and the absolute jumps (30_encoding.md R206, 44_control.md R500 to R502). -/

namespace Sys2Proof.Machine

/-- An absolute jump forgets the pc past its bytes: only the target and the cost are left. -/
theorem complete_setPc (len cost : Nat) (target : Word) (s : State) :
    complete len cost (fun t => t.setPc target) s = .next (s.jumps target cost id) := rfl

theorem doJp_eq (nn : Word) (s : State) : doJp nn s = .next (s.jumps nn 16 id) := complete_setPc 3 16 nn s

/-- The jump is taken by the condition on the flags before; not taken, the pc is past all three bytes. -/
theorem doJpCond_eq (cc : Cond) (nn : Word) (s : State) :
    doJpCond cc nn s = .next (if s.regs.cond cc then s.jumps nn 16 id else s.retires 3 12 id) := by
  rw [doJpCond, completeIf_eq, complete_setPc]
  exact (apply_ite Host.Outcome.next _ _ _).symm

/-- HL is not moved by the fetch. -/
theorem doJpHl_eq (s : State) : doJpHl s = .next (s.jumps s.regs.hl 4 id) := complete_setPc 1 4 s.regs.hl s

/-- Settles O18: each jump as one next state; codes, conditions and bytes by the definitions, condition by condition. -/
theorem jumps : Obligations.Jumps := by
  intro cc nn s
  refine ⟨?code, ?cond, ⟨rfl, doJp_eq nn s⟩, ⟨?bytes, ?jump⟩, rfl, doJpHl_eq s⟩
  case code => cases cc <;> rfl
  case cond => cases cc <;> rfl
  case bytes => cases cc <;> rfl
  case jump => rw [exec_jpCond, doJpCond_eq]

end Sys2Proof.Machine
end

section
/-! PROOF. O1, O2, O3 and O6: the byte loads and stores and POP (40_load.md R300 to R318, R323, R325, R326). An effect runs with the pc past the
instruction's bytes; the address and the value it takes do not depend on the pc, so each form completes as one retired state of the state before. -/

namespace Sys2Proof.Machine

/-- A register of the 3-bit field is never the pc. -/
@[simp] theorem Regs.get_pc (g : Regs) (pc : Word) (r : Reg8) : Regs.get { g with pc := pc } r = g.get r := by
  cases r <;> rfl

/-- Past the instruction's bytes, the registers of the 3-bit field read as before. -/
@[simp] theorem State.get_skip (s : State) (len : Nat) (r : Reg8) : (s.skip len).regs.get r = s.regs.get r :=
  Regs.get_pc s.regs _ r

theorem keepsPc_set (r : Reg8) (v : Byte) : KeepsPc fun g => g.set r v := by
  intro g pc
  cases r <;> rfl

/-- The high page's address, in the arithmetic of the rules (30_encoding.md R210, R211). -/
theorem highPage_eq (n : Byte) : highPage n = 0xFF00 + n.setWidth 16 := by
  apply BitVec.eq_of_toNat_eq
  have byte := n.isLt
  rw [highPage, word, BitVec.toNat_append, ← Nat.shiftLeft_add_eq_or_of_lt byte, BitVec.toNat_add, BitVec.toNat_setWidth]
  change 0xFF00 + n.toNat = (0xFF00 + n.toNat % 2 ^ 16) % 2 ^ 16
  omega

section Completion

variable {len cost : Nat} {s : State} {address : State → Word} {value : State → Byte} {a : Word} {v : Byte}

/-- An instruction that loads one register with a value the pc does not move. -/
theorem complete_setReg {r : Reg8} (hv : value (s.skip len) = v) :
    complete len cost (fun t => t.setReg r (value t)) s = .next (s.retires len cost fun g => g.set r v) := by
  subst hv
  exact complete_mapRegs len cost s (keepsPc_set r (value (s.skip len)))

/-- An instruction that stores one byte, at an address and of a value the pc does not move. -/
theorem complete_store (ha : address (s.skip len) = a) (hv : value (s.skip len) = v) :
    complete len cost (fun t => t.writeByte (address t) (value t)) s = .next ((s.writeByte a v).retires len cost id) := by
  subst ha hv
  exact complete_writeByte len cost s _ _

end Completion

section Meanings

variable (dst r : Reg8) (n : Byte) (s : State)

theorem doLdRegReg_eq : doLdRegReg dst r s = .next (s.retires 1 4 fun g => g.set dst (g.get r)) :=
  complete_setReg (value := fun t => t.regs.get r) (s.get_skip 1 r)

theorem doLdRegImm_eq : doLdRegImm dst n s = .next (s.retires 2 8 fun g => g.set dst n) :=
  complete_setReg (value := fun _ => n) rfl

theorem doLdRegMem_eq : doLdRegMem dst s = .next (s.retires 1 8 fun g => g.set dst (s.readByte s.regs.hl)) :=
  complete_setReg (value := fun t => t.readByte t.regs.hl) rfl

theorem doLdMemReg_eq : doLdMemReg r s = .next ((s.writeByte s.regs.hl (s.regs.get r)).retires 1 8 id) :=
  complete_store (address := fun t => t.regs.hl) (value := fun t => t.regs.get r) rfl (s.get_skip 1 r)

theorem doLdMemImm_eq : doLdMemImm n s = .next ((s.writeByte s.regs.hl n).retires 2 12 id) :=
  complete_store (address := fun t => t.regs.hl) (value := fun _ => n) rfl rfl

/-- A loaded from an address that the pc does not move. -/
theorem doLoadA_eq {len cost : Nat} (address : Regs → Word) {a : Word} (ha : address (s.skip len).regs = a) :
    doLoadA len cost address s = .next (s.retires len cost fun g => { g with a := s.readByte a }) :=
  complete_setReg (r := .a) (value := fun t => t.readByte (address t.regs)) (congrArg s.readByte ha)

/-- A stored to an address that the pc does not move. -/
theorem doStoreA_eq {len cost : Nat} (address : Regs → Word) {a : Word} (ha : address (s.skip len).regs = a) :
    doStoreA len cost address s = .next ((s.writeByte a s.regs.a).retires len cost id) :=
  complete_store (address := fun t => address t.regs) (value := fun t => t.regs.a) ha rfl

theorem doLoadAStep_eq (step : Word → Word) :
    doLoadAStep step s = .next (s.retires 1 8 fun g =>
      { g with a := s.readByte s.regs.hl, h := hiByte (step s.regs.hl), l := loByte (step s.regs.hl) }) := rfl

/-- The store leaves HL, so the step starts from the HL of the state before. -/
theorem doStoreAStep_eq (step : Word → Word) :
    doStoreAStep step s = .next ((s.writeByte s.regs.hl s.regs.a).retires 1 8 fun g =>
      { g with h := hiByte (step s.regs.hl), l := loByte (step s.regs.hl) }) := by
  have stepped : KeepsPc fun g => g.setHl (step g.hl) := fun _ _ => rfl
  refine (complete_writeByte_mapRegs 1 8 s s.regs.hl s.regs.a stepped).trans ?_
  simp only [State.retires, State.writeByte_regs, Regs.setHl]

/-- The two bytes popped go to the registers of the pair, the low one masked where it is F. -/
theorem doPop_eq (q : StackPair) :
    doPop q s = .next (s.retires 1 12 fun g => { g.setStackPair q s.popValue with sp := s.regs.sp + 2 }) :=
  complete_pop s 1 12 q

end Meanings

/-- Settles O1: the reads, the writes, the codes and the bytes by the definitions, register by register; each load as one retired state. -/
theorem registerLoads : Obligations.RegisterLoads := by
  intro dst r n s
  refine ⟨?code, ?read, ?write, ⟨?regBytes, ?reg⟩, ⟨?immBytes, ?imm⟩, ⟨?memBytes, ?mem⟩⟩
  case code => cases r <;> rfl
  case read => cases r <;> rfl
  case write => cases dst <;> rfl
  case regBytes => cases dst <;> cases r <;> rfl
  case reg => rw [exec_ldRegReg, doLdRegReg_eq]
  case immBytes => cases dst <;> rfl
  case imm => rw [exec_ldRegImm, doLdRegImm_eq]
  case memBytes => cases dst <;> rfl
  case mem => rw [exec_ldRegMem, doLdRegMem_eq]

/-- Settles O2: each store as one retired state of the state after the write; no store depends on the pc past its bytes. -/
theorem byteStores : Obligations.ByteStores := by
  intro r n nn s up down
  refine ⟨⟨?regBytes, ?reg⟩, ⟨rfl, doLdMemImm_eq n s⟩, ⟨rfl, ?atBc⟩, ⟨rfl, ?atDe⟩, ⟨rfl, ?atWord⟩, ⟨rfl, ?atHigh⟩, ⟨rfl, ?atHighC⟩,
    ⟨rfl, doStoreAStep_eq s (· + 1)⟩, ⟨rfl, doStoreAStep_eq s (· - 1)⟩⟩
  case atBc => exact doStoreA_eq s Regs.bc rfl
  case atDe => exact doStoreA_eq s Regs.de rfl
  case atWord => exact doStoreA_eq s (fun _ => nn) rfl
  case atHigh => exact doStoreA_eq s (fun _ => highPage n) (highPage_eq n)
  case atHighC => exact doStoreA_eq s (fun g => highPage g.c) (highPage_eq s.regs.c)
  case regBytes => cases r <;> rfl
  case reg => rw [exec_ldMemReg, doLdMemReg_eq]

/-- Settles O3: each load of A as one retired state; no address depends on the pc past the bytes. -/
theorem accumulatorLoads : Obligations.AccumulatorLoads := by
  intro n nn s up down
  refine ⟨⟨rfl, ?atBc⟩, ⟨rfl, ?atDe⟩, ⟨rfl, ?atWord⟩, ⟨rfl, ?atHigh⟩, ⟨rfl, ?atHighC⟩, ⟨rfl, doLoadAStep_eq s (· + 1)⟩,
    ⟨rfl, doLoadAStep_eq s (· - 1)⟩⟩
  case atBc => exact doLoadA_eq s Regs.bc rfl
  case atDe => exact doLoadA_eq s Regs.de rfl
  case atWord => exact doLoadA_eq s (fun _ => nn) rfl
  case atHigh => exact doLoadA_eq s (fun _ => highPage n) (highPage_eq n)
  case atHighC => exact doLoadA_eq s (fun g => highPage g.c) (highPage_eq s.regs.c)

/-- Settles O6: the word popped is the two bytes read, so its halves are those bytes; each pair takes them by its own definition. -/
theorem popLoadsPair : Obligations.PopLoadsPair := by
  intro q s lo hi
  have high : hiByte s.popValue = hi := hiByte_word hi lo
  have low : loByte s.popValue = lo := loByte_word hi lo
  refine ⟨?byte, ?pop⟩
  case byte => cases q <;> rfl
  case pop =>
    rw [exec_pop, doPop_eq]
    cases q <;> simp only [Regs.setStackPair, Regs.setHl, high, low]

end Sys2Proof.Machine
end

section
/-! PROOF. O8 to O13: 8-bit arithmetic and logic (41_alu8.md R400 to R416). Each operation computes one flagged result from values the pc does not
move, so each form completes as one retired state that takes the result; what is left is the result in the integer arithmetic of the rules. -/

namespace Sys2Proof.Machine

theorem keepsPc_set_setFlags (r : Reg8) (v : Byte) (z n h c : Bool) : KeepsPc fun g => (g.set r v).setFlags z n h c := by
  intro g pc
  cases r <;> rfl

section Completion

variable {len cost : Nat} {s : State} {result : State → Flagged} {v : Flagged}

/-- An instruction that writes a register with a flagged result the pc does not move. -/
theorem complete_setReg_putFlags {r : Reg8} (hv : result (s.skip len) = v) :
    complete len cost (fun t => (t.setReg r (result t).value).putFlags (result t)) s =
      .next (s.retires len cost fun g => { g.set r v.value with f := packFlags v.z v.n v.h v.c }) := by
  subst hv
  exact complete_mapRegs len cost s (keepsPc_set_setFlags r _ _ _ _ _)

/-- An instruction that stores a flagged result the pc does not move at HL. -/
theorem complete_storeHl_putFlags (hv : result (s.skip len) = v) :
    complete len cost (fun t => (t.writeByte t.regs.hl (result t).value).putFlags (result t)) s =
      .next ((s.writeByte s.regs.hl v.value).retires len cost fun g => { g with f := packFlags v.z v.n v.h v.c }) := by
  subst hv
  exact complete_writeByte_mapRegs len cost s s.regs.hl _ (f := fun g => g.setFlags _ _ _ _) fun _ _ => rfl

end Completion

section Meanings

variable (r : Reg8) (s : State)

theorem doIncReg_eq : doIncReg r s = .next (s.retires 1 4 fun g =>
    let v := inc8 (s.regs.get r) s.regs.cf
    { g.set r v.value with f := packFlags v.z v.n v.h v.c }) :=
  complete_setReg_putFlags (result := fun t => inc8 (t.regs.get r) t.regs.cf) (congrArg (inc8 · s.regs.cf) (s.get_skip 1 r))

theorem doDecReg_eq : doDecReg r s = .next (s.retires 1 4 fun g =>
    let v := dec8 (s.regs.get r) s.regs.cf
    { g.set r v.value with f := packFlags v.z v.n v.h v.c }) :=
  complete_setReg_putFlags (result := fun t => dec8 (t.regs.get r) t.regs.cf) (congrArg (dec8 · s.regs.cf) (s.get_skip 1 r))

theorem doIncMem_eq :
    let v := inc8 (s.readByte s.regs.hl) s.regs.cf
    doIncMem s = .next ((s.writeByte s.regs.hl v.value).retires 1 12 fun g => { g with f := packFlags v.z v.n v.h v.c }) :=
  complete_storeHl_putFlags (result := fun t => inc8 (t.readByte t.regs.hl) t.regs.cf) rfl

theorem doDecMem_eq :
    let v := dec8 (s.readByte s.regs.hl) s.regs.cf
    doDecMem s = .next ((s.writeByte s.regs.hl v.value).retires 1 12 fun g => { g with f := packFlags v.z v.n v.h v.c }) :=
  complete_storeHl_putFlags (result := fun t => dec8 (t.readByte t.regs.hl) t.regs.cf) rfl

theorem doDaa_eq {v : Flagged} (result : daa8 s.regs.a s.regs.nf s.regs.hf s.regs.cf = v) :
    doDaa s = .next (s.retires 1 4 fun g => { g with a := v.value, f := packFlags v.z v.n v.h v.c }) :=
  complete_setReg_putFlags (r := .a) (result := fun t => daa8 t.regs.a t.regs.nf t.regs.hf t.regs.cf) result

end Meanings

/-- The bytes of an ALU form: the operation's code in the field `y`, the operand in `z` or in a second byte. -/
theorem encode_alu (op : AluOp) (x : AluSrc) : encode (Instr.alu op x) = aluBytes op.code x := by
  cases x with
  | reg r => cases op <;> cases r <;> rfl
  | memHl => cases op <;> rfl
  | imm n => cases op <;> rfl

theorem length_aluBytes (y : BitVec 3) (x : AluSrc) : (aluBytes y x).length = aluLength x := by
  cases x <;> rfl

/-- An ALU form, from its flagged result. -/
theorem alu_retires (op : AluOp) (x : AluSrc) (s : State) {v : Flagged} (result : alu8 op s.regs.a (s.aluSource x) s.regs.cf = v) :
    encode (Instr.alu op x) = aluBytes op.code x ∧
      exec (Instr.alu op x) s = .next (s.retires (aluBytes op.code x).length (aluCost x) fun g =>
        { g with a := v.value, f := packFlags v.z v.n v.h v.c }) := by
  subst result
  rw [length_aluBytes, exec_alu, doAlu_eq]
  exact ⟨encode_alu op x, rfl⟩

section Results

variable (a v : Byte) (carry : Bool)

/-- The sum in the integers (R401, R402). -/
theorem add8_eq :
    let t := a.toNat + v.toNat + carry.toNat
    add8 a v carry =
      { value := BitVec.ofNat 8 t, z := t % 256 = 0, n := false, h := a.toNat % 16 + v.toNat % 16 + carry.toNat > 0x0F, c := t > 0xFF } := by
  simp only [add8, ← BitVec.toNat_inj, BitVec.toNat_ofNat]
  rfl

/-- The difference modulo 2^8, one turn up so that it stays in the naturals (R403, R404). -/
theorem toNat_sub_borrow :
    (a - v - BitVec.ofNat 8 carry.toNat).toNat = (a.toNat + 256 - v.toNat - carry.toNat) % 256 := by
  have borrow := Bool.toNat_le carry
  have byte := v.isLt
  simp only [BitVec.toNat_sub, BitVec.toNat_ofNat]
  omega

theorem sub8_eq :
    let t := a.toNat + 256 - v.toNat - carry.toNat
    sub8 a v carry =
      { value := BitVec.ofNat 8 t, z := t % 256 = 0, n := true, h := a.toNat % 16 < v.toNat % 16 + carry.toNat,
        c := a.toNat < v.toNat + carry.toNat } := by
  have value : a - v - BitVec.ofNat 8 carry.toNat = BitVec.ofNat 8 (a.toNat + 256 - v.toNat - carry.toNat) :=
    BitVec.eq_of_toNat_eq (toNat_sub_borrow a v carry)
  simp only [sub8, value, ← BitVec.toNat_inj, BitVec.toNat_ofNat]
  rfl

/-- Of a comparison, Z says that the operands are equal (R408). -/
theorem cp8_eq : alu8 .cp a v carry =
    { value := a, z := a.toNat = v.toNat, n := true, h := a.toNat % 16 < v.toNat % 16, c := a.toNat < v.toNat } := by
  have equal : a - v - 0 = 0 ↔ a.toNat = v.toNat := by bv_omega
  exact congrArg (Flagged.mk a · true _ _) (decide_eq_decide.mpr equal)

end Results

section Daa

variable (a : Byte) (n h c : Bool)

/-- After a subtraction the two lines ask the flags alone (R413). -/
theorem daaSteps_sub : daaSteps a.toNat true h c = ((daa8 a true h c).value.toNat, (daa8 a true h c).c) := by
  cases c <;> cases h <;> simp [daaSteps, daa8, BitVec.toNat_sub] <;> omega

/-- After an addition the second line asks the low digit, which adding 0x60 in the first does not move (R413). -/
theorem daaSteps_add : daaSteps a.toNat false h c = ((daa8 a false h c).value.toNat, (daa8 a false h c).c) := by
  have lowDigit : (a.toNat + 0x60) % 256 % 16 = a.toNat % 16 := by omega
  simp only [daaSteps, daa8, Bool.not_false, Bool.true_and, Bool.false_eq_true, if_false]
  cases high : c || decide (a.toNat > 0x99) <;> cases low : h || decide (a.toNat % 16 > 9) <;> simp_all [BitVec.toNat_add]

theorem daa8_eq :
    let r := daaSteps a.toNat n h c
    daa8 a n h c = { value := BitVec.ofNat 8 r.1, z := r.1 = 0, n := n, h := false, c := r.2 } := by
  have steps : daaSteps a.toNat n h c = ((daa8 a n h c).value.toNat, (daa8 a n h c).c) := by
    cases n with
    | true => exact daaSteps_sub a h c
    | false => exact daaSteps_add a h c
  simp only [steps, BitVec.ofNat_toNat, BitVec.setWidth_eq]
  exact congrArg (Flagged.mk _ · n false _) (decide_eq_decide.mpr BitVec.toNat_inj.symm)

end Daa

/-- The four flags stand in bits 7 to 4 (R31). -/
theorem packFlags_eq_or (z n h c : Bool) : packFlags z n h c =
    (if z then 0x80 else 0) ||| (if n then 0x40 else 0) ||| (if h then 0x20 else 0) ||| (if c then 0x10 else 0) := by
  revert z n h c
  decide

/-- Settles O8: both forms take the sum, without and with the carry. -/
theorem addAndAdc : Obligations.AddAndAdc := by
  intro x s a v c
  exact ⟨alu_retires .add x s (add8_eq s.regs.a (s.aluSource x) false), alu_retires .adc x s (add8_eq s.regs.a (s.aluSource x) s.regs.cf)⟩

/-- Settles O9: both forms take the difference, without and with the borrow. -/
theorem subAndSbc : Obligations.SubAndSbc := by
  intro x s a v c
  exact ⟨alu_retires .sub x s (sub8_eq s.regs.a (s.aluSource x) false), alu_retires .sbc x s (sub8_eq s.regs.a (s.aluSource x) s.regs.cf)⟩

/-- Settles O10: the operand by its form; the logical results are the definitions', and CP takes A back. -/
theorem logicAndCompare : Obligations.LogicAndCompare := by
  intro x s a v
  refine ⟨?operand, alu_retires .and x s rfl, alu_retires .xor x s rfl, alu_retires .or x s rfl,
    alu_retires .cp x s (cp8_eq s.regs.a v s.regs.cf)⟩
  case operand => cases x <;> exact ⟨rfl, rfl⟩

/-- Settles O11: each step as one retired state, the flag C taken from the state before; the bytes register by register. -/
theorem incDecRegister : Obligations.IncDecRegister := by
  intro r s v
  refine ⟨⟨?incByte, ?inc⟩, ?decByte, ?dec⟩
  case incByte => cases r <;> rfl
  case inc => rw [exec_incReg, doIncReg_eq]; rfl
  case decByte => cases r <;> rfl
  case dec => rw [exec_decReg, doDecReg_eq]; rfl

/-- Settles O12: the byte read at HL is stored back stepped, and the store leaves the flags to be written. -/
theorem incDecMemory : Obligations.IncDecMemory := by
  intro s v
  exact ⟨⟨rfl, doIncMem_eq s⟩, rfl, doDecMem_eq s⟩

/-- Settles O13: the layout of F, and DAA by its adjustments; CPL, SCF and CCF change A and F alone. -/
theorem accumulatorAndFlags : Obligations.AccumulatorAndFlags := by
  intro s
  refine ⟨⟨rfl, rfl, rfl, rfl⟩, packFlags_eq_or, ⟨rfl, ?daa⟩, ⟨rfl, rfl⟩, ⟨rfl, rfl⟩, rfl, rfl⟩
  case daa => exact doDaa_eq s (daa8_eq s.regs.a s.regs.nf s.regs.hf s.regs.cf)

end Sys2Proof.Machine
end

section
/-! PROOF. O14 to O16: 16-bit arithmetic (42_alu16.md R450 to R454). A pair of `rp` reads the same past the instruction's bytes, so each form completes
as one retired state of the registers before; what is left is the sum, unsigned or signed, in the integers of the rules. -/

namespace Sys2Proof.Machine

/-- The value of a word from its two bytes (00_scope.md R9). -/
theorem toNat_word (hi lo : Byte) : (word hi lo).toNat = hi.toNat * 256 + lo.toNat := by
  rw [word, BitVec.toNat_append, ← Nat.shiftLeft_add_eq_or_of_lt lo.isLt, Nat.shiftLeft_eq]

/-- A signed displacement added to a word is the sum in the integers, modulo 2^16 (30_encoding.md R208). -/
theorem add_displacement (v : Word) (e : Byte) : v + displacement e = BitVec.ofInt 16 (v.toNat + e.toInt) := by
  rw [BitVec.ofInt_add, BitVec.ofInt_natCast, BitVec.ofNat_toNat, BitVec.setWidth_eq]
  rfl

/-- A step of a pair neither looks at the pc nor changes it. -/
theorem keepsPc_stepPair (p : Pair) (change : Word → Word) : KeepsPc fun g => g.setPair p (change (g.pair p)) := by
  intro g pc
  cases p <;> rfl

section Meanings

variable (p : Pair) (e : Byte) (s : State)

theorem doAddHlPair_eq :
    let x := s.regs.hl
    let v := s.regs.pair p
    doAddHlPair p s = .next (s.retires 1 8 fun g =>
      { g.setHl (x + v) with f := packFlags s.regs.zf false (halfCarry16 x v) (carry16 x v) }) := by
  cases p <;> rfl

theorem doIncPair_eq : doIncPair p s = .next (s.retires 1 8 fun g => g.setPair p (g.pair p + 1)) :=
  complete_mapRegs 1 8 s (keepsPc_stepPair p (· + 1))

theorem doDecPair_eq : doDecPair p s = .next (s.retires 1 8 fun g => g.setPair p (g.pair p - 1)) :=
  complete_mapRegs 1 8 s (keepsPc_stepPair p (· - 1))

theorem doAddSp_eq : doAddSp e s = .next (s.retires 2 16 fun g =>
    { g with
      sp := s.regs.sp + displacement e
      f := packFlags false false (spHalfCarry s.regs.sp e) (spCarry s.regs.sp e) }) := rfl

theorem doLdHlSp_eq : doLdHlSp e s = .next (s.retires 2 12 fun g =>
    { g.setHl (s.regs.sp + displacement e) with
      f := packFlags false false (spHalfCarry s.regs.sp e) (spCarry s.regs.sp e) }) := rfl

end Meanings

/-- Settles O14: the two addends as naturals, pair by pair; the model's sum and carries are then those of R450. -/
theorem addHl : Obligations.AddHl := by
  intro p s x v
  have augend : s.regs.hl.toNat = x := toNat_word s.regs.h s.regs.l
  have addend : (s.regs.pair p).toNat = v := by
    cases p with
    | bc => exact toNat_word s.regs.b s.regs.c
    | de => exact toNat_word s.regs.d s.regs.e
    | hl => exact toNat_word s.regs.h s.regs.l
    | sp => rfl
  refine ⟨?byte, ?sum⟩
  case byte => cases p <;> rfl
  case sum =>
    rw [exec_addHlPair, doAddHlPair_eq, BitVec.add_def, ← augend, ← addend]
    rfl

/-- Settles O15: each step as one retired state; the bytes, the pair read and the pair written by the definitions, pair by pair. -/
theorem incDecPair : Obligations.IncDecPair := by
  intro p s old put
  refine ⟨⟨?incByte, ?inc⟩, ?decByte, ?dec⟩
  case incByte => cases p <;> rfl
  case inc =>
    rw [exec_incPair, doIncPair_eq]
    cases p <;> rfl
  case decByte => cases p <;> rfl
  case dec =>
    rw [exec_decPair, doDecPair_eq]
    cases p <;> rfl

/-- Settles O16: both forms take the signed sum, and their flags are already those of the unsigned low byte. -/
theorem stackDisplacement : Obligations.StackDisplacement := by
  intro e s sp flags
  have sum : BitVec.ofInt 16 (sp + e.toInt) = s.regs.sp + displacement e := (add_displacement s.regs.sp e).symm
  rw [sum]
  exact ⟨⟨rfl, doAddSp_eq e s⟩, rfl, doLdHlSp_eq e s⟩

end Sys2Proof.Machine
end

section
/-! PROOF. O17: the accumulator rotates (43_rotate_a.md R480 to R483). Each is the shared rotate of A, one retired state of the registers before;
what is left is the value the rotate gives, circular or through the carry. -/

namespace Sys2Proof.Machine

section Rotates

variable (v : Byte) (carry : Bool)

/-- The carry as the byte that a rotate through it takes in (R482, R483). -/
theorem ofNat_carry : BitVec.ofNat 8 carry.toNat = if carry then 1 else 0 := by
  cases carry <;> rfl

theorem shift8_rlc : shift8 .rlc v carry = (v.rotateLeft 1, v.getLsbD 7) := rfl

theorem shift8_rrc : shift8 .rrc v carry = (v.rotateRight 1, v.getLsbD 0) := rfl

theorem shift8_rl : shift8 .rl v carry = (v <<< 1 ||| (if carry then 1 else 0), v.getLsbD 7) := by
  rw [shift8, ofNat_carry]

theorem shift8_rr : shift8 .rr v carry = (v >>> 1 ||| (if carry then 1 else 0 : Byte) <<< 7, v.getLsbD 0) := by
  rw [shift8, ofNat_carry]

/-- A rotate of A from the value and the bit that its shift gives: Z, N and H are cleared whatever the value. -/
theorem doRotateA_of_shift8 {k : ShiftOp} {s : State} {value : Byte} {out : Bool} (h : shift8 k s.regs.a s.regs.cf = (value, out)) :
    doRotateA k s = .next (s.retires 1 4 fun g => { g with a := value, f := packFlags false false false out }) := by
  rw [doRotateA_eq, h]

end Rotates

/-- Settles O17: each form by the value of its own rotate, the two through the carry with the flag C as the byte taken in. -/
theorem accumulatorRotates : Obligations.AccumulatorRotates := by
  intro s carry
  refine ⟨⟨rfl, ?rlca⟩, ⟨rfl, ?rrca⟩, ⟨rfl, ?rla⟩, rfl, ?rra⟩
  case rlca => exact doRotateA_of_shift8 (shift8_rlc s.regs.a s.regs.cf)
  case rrca => exact doRotateA_of_shift8 (shift8_rrc s.regs.a s.regs.cf)
  case rla => exact doRotateA_of_shift8 (shift8_rl s.regs.a s.regs.cf)
  case rra => exact doRotateA_of_shift8 (shift8_rr s.regs.a s.regs.cf)

end Sys2Proof.Machine
end

section
/-! PROOF. O19 to O21: relative jumps, calls, restarts and returns (44_control.md R503 to R510). Each transfer is the completion of one shared operation,
so it is one jumped state; a conditional form takes that state or retires past its bytes. -/

namespace Sys2Proof.Machine

/-- A conditional transfer, from the next state it has when taken (R220). -/
theorem completeIf_of_taken {cc : Cond} {len taken notTaken : Nat} {effect : State → State} {s t : State}
    (h : complete len taken effect s = .next t) :
    completeIf cc len taken notTaken effect s = .next (if s.regs.cond cc then t else s.retires len notTaken id) := by
  rw [completeIf_eq, h]
  exact (apply_ite Host.Outcome.next _ _ _).symm

/-- A relative jump starts from the pc past its bytes. -/
theorem complete_jumpRelative (len cost : Nat) (e : Byte) (s : State) :
    complete len cost (fun t => t.setPc (t.regs.pc + displacement e)) s =
      .next (s.jumps (s.regs.pc + BitVec.ofNat 16 len + BitVec.ofInt 16 e.toInt) cost id) := rfl

section Meanings

variable (cc : Cond) (e : Byte) (nn : Word) (y : Fin 8) (s : State)

theorem doJr_eq : doJr e s = .next (s.jumps (s.regs.pc + 2 + BitVec.ofInt 16 e.toInt) 12 id) :=
  complete_jumpRelative 2 12 e s

theorem doJrCond_eq : doJrCond cc e s =
    .next (if s.regs.cond cc then s.jumps (s.regs.pc + 2 + BitVec.ofInt 16 e.toInt) 12 id else s.retires 2 8 id) :=
  completeIf_of_taken (complete_jumpRelative 2 12 e s)

theorem doCall_eq : doCall nn s =
    .next ((s.pushed (s.regs.pc + 3)).jumps nn 24 fun g => { g with sp := s.regs.sp - 2 }) :=
  complete_call s 3 24 nn

theorem doCallCond_eq : doCallCond cc nn s =
    .next (if s.regs.cond cc then (s.pushed (s.regs.pc + 3)).jumps nn 24 fun g => { g with sp := s.regs.sp - 2 }
      else s.retires 3 12 id) :=
  completeIf_of_taken (complete_call s 3 24 nn)

theorem doRst_eq : doRst y s =
    .next ((s.pushed (s.regs.pc + 1)).jumps (BitVec.ofNat 16 (8 * y.val)) 16 fun g => { g with sp := s.regs.sp - 2 }) :=
  complete_call s 1 16 (BitVec.ofNat 16 (8 * y.val))

theorem doRet_eq : doRet s = .next (s.jumps s.popValue 16 fun g => { g with sp := s.regs.sp + 2 }) :=
  complete_return s 1 16

theorem doRetCond_eq : doRetCond cc s =
    .next (if s.regs.cond cc then s.jumps s.popValue 20 fun g => { g with sp := s.regs.sp + 2 } else s.retires 1 8 id) :=
  completeIf_of_taken (complete_return s 1 20)

/-- RETI is RET with IME set in the same step (R509). -/
theorem doReti_jumps : doReti s = .next { s.jumps s.popValue 16 fun g => { g with sp := s.regs.sp + 2 } with ime := true } := rfl

end Meanings

/-- Settles O19: both forms jump from the pc past their two bytes; the bytes condition by condition. -/
theorem relativeJumps : Obligations.RelativeJumps := by
  intro cc e s target
  refine ⟨⟨rfl, doJr_eq e s⟩, ?bytes, ?jump⟩
  case bytes => cases cc <;> rfl
  case jump => rw [exec_jrCond, doJrCond_eq]

/-- Settles O20: every form is the shared call, with the return address past its own bytes; the bytes condition by condition and vector by vector. -/
theorem calls : Obligations.Calls := by
  intro cc nn y s pushing
  refine ⟨⟨rfl, doCall_eq nn s⟩, ⟨?callBytes, ?call⟩, ?rstByte, ?rst⟩
  case callBytes => cases cc <;> rfl
  case call => rw [exec_callCond, doCallCond_eq]
  case rstByte => fin_cases y <;> rfl
  case rst => rw [exec_rst, doRst_eq]

/-- Settles O21: every form is the shared return to the word popped; the bytes condition by condition. -/
theorem returns : Obligations.Returns := by
  intro cc s returning
  refine ⟨⟨rfl, doRet_eq s⟩, ⟨?bytes, ?ret⟩, rfl, doReti_jumps s⟩
  case bytes => cases cc <;> rfl
  case ret => exact (exec_retCond cc s).trans (doRetCond_eq cc s)

end Sys2Proof.Machine
end

section
/-! PROOF. O27: the 0xCB prefix and its second byte are one instruction (45_system.md R558, 46_cb_prefix.md R600, R601). The codes of the operands
give back each row of the 0xCB map, so the fields of a second byte give its row; the prefix row's meaning makes the same choice by the same fields. -/

namespace Sys2Proof.Machine

/-- The fields `x`, `y` and `z` of a byte make it up (30_encoding.md R202). -/
theorem opcodeXYZ_fields (b : Byte) : opcodeXYZ (b.extractLsb' 6 2) (b.extractLsb' 3 3) (b.extractLsb' 0 3) = b := by
  rw [opcodeXYZ, BitVec.extractLsb'_append_extractLsb'_eq_extractLsb' (show 3 = 0 + 3 from rfl),
    BitVec.extractLsb'_append_extractLsb'_eq_extractLsb' (show 6 = 0 + (3 + 3) from rfl)]
  exact BitVec.extractLsb'_eq_self

theorem code_operandOfCode (z : BitVec 3) : (Operand8.ofCode z).code = z := by
  decide +revert

theorem code_shiftOfCode (y : BitVec 3) : (ShiftOp.ofCode y).code = y := by
  decide +revert

/-- The four values of the field `x`. -/
theorem field_x_cases (x : BitVec 2) : x = 0 ∨ x = 1 ∨ x = 2 ∨ x = 3 := by
  decide +revert

section Rows

variable (k : ShiftOp) (b : Fin 8) (o : Operand8)

theorem secondary_shift : secondary (opcodeXYZ 0 k.code o.code) = Instr.shift k o := by
  cases k <;> rcases o with (_ | _ | _ | _ | _ | _ | _) | _ <;> rfl

theorem secondary_bit : secondary (opcodeXYZ 1 (BitVec.ofFin b) o.code) = Instr.bit b o := by
  fin_cases b <;> rcases o with (_ | _ | _ | _ | _ | _ | _) | _ <;> rfl

theorem secondary_res : secondary (opcodeXYZ 2 (BitVec.ofFin b) o.code) = Instr.res b o := by
  fin_cases b <;> rcases o with (_ | _ | _ | _ | _ | _ | _) | _ <;> rfl

theorem secondary_set : secondary (opcodeXYZ 3 (BitVec.ofFin b) o.code) = Instr.set b o := by
  fin_cases b <;> rcases o with (_ | _ | _ | _ | _ | _ | _) | _ <;> rfl

end Rows

/-- The row of the 0xCB map that the fields of a second byte select (46_cb_prefix.md R600). -/
theorem secondary_eq (cb : Byte) : secondary cb =
    if cb.extractLsb' 6 2 = 0 then Instr.shift (ShiftOp.ofCode (cb.extractLsb' 3 3)) (Operand8.ofCode (cb.extractLsb' 0 3))
    else if cb.extractLsb' 6 2 = 1 then Instr.bit (cb.extractLsb' 3 3).toFin (Operand8.ofCode (cb.extractLsb' 0 3))
    else if cb.extractLsb' 6 2 = 2 then Instr.res (cb.extractLsb' 3 3).toFin (Operand8.ofCode (cb.extractLsb' 0 3))
    else Instr.set (cb.extractLsb' 3 3).toFin (Operand8.ofCode (cb.extractLsb' 0 3)) := by
  have fields := opcodeXYZ_fields cb
  generalize cb.extractLsb' 6 2 = x, cb.extractLsb' 3 3 = y, cb.extractLsb' 0 3 = z at fields ⊢
  subst fields
  have hz := code_operandOfCode z
  rcases field_x_cases x with rfl | rfl | rfl | rfl
  · have row := secondary_shift (ShiftOp.ofCode y) (Operand8.ofCode z)
    rwa [code_shiftOfCode, hz] at row
  · have row := secondary_bit y.toFin (Operand8.ofCode z)
    rwa [hz] at row
  · have row := secondary_res y.toFin (Operand8.ofCode z)
    rwa [hz] at row
  · have row := secondary_set y.toFin (Operand8.ofCode z)
    rwa [hz] at row

/-- The prefix row means what the row of its second byte means (45_system.md R558). -/
theorem exec_prefixCb (cb : Byte) (s : State) : exec (.prefixCb cb) s = exec (secondary cb) s := by
  change doSecondary cb s = _
  rw [secondary_eq, doSecondary]
  split_ifs
  · exact (exec_shift _ _ s).symm
  · exact (exec_bit _ _ s).symm
  · exact (exec_res _ _ s).symm
  · exact (exec_set _ _ s).symm

/-- Settles O27: the row is the one its fields name, value by value of each field; the prefix row's meaning is that row's. -/
theorem prefixSelectsSecondRow : Obligations.PrefixSelectsSecondRow := by
  intro cb v s y o k
  have ho : Operand8.ofCode (cb.extractLsb' 0 3) = o := by
    subst o
    generalize cb.extractLsb' 0 3 = z
    decide +revert
  have hk : ShiftOp.ofCode y = k := by
    subst k
    clear_value y
    decide +revert
  refine ⟨?row, ?read, ?write, rfl, rfl, exec_prefixCb cb s⟩
  case row =>
    rw [secondary_eq, ho, hk]
    rcases field_x_cases (cb.extractLsb' 6 2) with hx | hx | hx | hx <;> rw [hx] <;> rfl
  case read => cases o <;> rfl
  case write => cases o <;> rfl

end Sys2Proof.Machine
end

section
/-! PROOF. O33: the halted tick (45_system.md R552). -/

namespace Sys2Proof.Machine

/-- A step is a halted tick when the core is halted and no enabled interrupt is pending (R552, R553). -/
theorem State.idles_iff (s : State) : s.idles = true ↔ s.halted = true ∧ s.ie.extractLsb' 0 5 &&& s.iflag = 0 := by
  rw [← BitVec.setWidth_eq_extractLsb' (by decide)]
  simp [State.idles, State.wakePending]

/-- Settles O33: the step is the settled halted tick, whose cost is 4; the display's advance keeps the fields it names. -/
theorem haltedTick : Obligations.HaltedTick := by
  intro s hstop hfault hhalted hpending
  have idles : s.idles = true := s.idles_iff.2 ⟨hhalted, hpending⟩
  have cost : s.haltedTick.cycles - s.cycles = 4 := Nat.add_sub_cancel_left ..
  refine ⟨State.advance 4 s.haltedTick, rfl, ?step, State.advance_regs .., State.advance_mem ..,
    (State.advance_halted ..).trans hhalted, State.advance_ime .., State.advance_ie ..⟩
  case step => rw [step_of_idles hstop hfault idles, settle, cost]

end Sys2Proof.Machine
end

section
/-! PROOF. O24 to O26: the rows of the 0xCB map (46_cb_prefix.md R602 to R614). The shared operations are each one retired state by their own laws; what
is left is the two bytes of a row from its fields, the cost by the operand, and the value of each shift in the arithmetic of the rules. -/

namespace Sys2Proof.Machine

section Bytes

/-- A row of the 0xCB map is encoded as 0xCB and the byte that selects it (R600): the map holds each of its rows once. -/
theorem encode_secondary (cb : Byte) : encode (secondary cb) = [0xCB, cb] := by
  decide +revert

variable (k : ShiftOp) (b : Fin 8) (o : Operand8)

theorem encode_shift : encode (Instr.shift k o) = [0xCB, opcodeXYZ 0 k.code o.code] := by
  rw [← secondary_shift, encode_secondary]

/-- A bit's number as the value of the field `y`. -/
theorem ofNat_bitNumber : BitVec.ofNat 3 b.val = BitVec.ofFin b := BitVec.ofFin_eq_ofNat.symm

theorem encode_bit : encode (Instr.bit b o) = [0xCB, opcodeXYZ 1 (BitVec.ofNat 3 b.val) o.code] := by
  rw [← secondary_bit, encode_secondary, ofNat_bitNumber]

theorem encode_res : encode (Instr.res b o) = [0xCB, opcodeXYZ 2 (BitVec.ofNat 3 b.val) o.code] := by
  rw [← secondary_res, encode_secondary, ofNat_bitNumber]

theorem encode_set : encode (Instr.set b o) = [0xCB, opcodeXYZ 3 (BitVec.ofNat 3 b.val) o.code] := by
  rw [← secondary_set, encode_secondary, ofNat_bitNumber]

end Bytes

/-- The cost of R602 by whether the operand is the byte at HL. -/
theorem cbCost_eq (o : Operand8) : cbCost o = if o = .memHl then 16 else 8 := by
  cases o <;> rfl

theorem bitCost_eq (params : Config.Params) (o : Operand8) :
    bitCost params o = if o = .memHl then params.bitHlCost.cycles else 8 := by
  cases o <;> rfl

section Values

variable (v : Byte) (carry : Bool)

theorem shift8_sla : shift8 .sla v carry = (v <<< 1, v.getLsbD 7) := rfl

/-- SRA copies bit 7 into the place it leaves: the shift of a signed byte (R609). -/
theorem sshiftRight_one_eq : v.sshiftRight 1 = v >>> 1 ||| v &&& 0x80 := by
  decide +revert

theorem shift8_sra : shift8 .sra v carry = (v.sshiftRight 1, v.getLsbD 0) := by
  rw [shift8, sshiftRight_one_eq]

theorem shift8_swap : shift8 .swap v carry = (v.rotateLeft 4, false) := rfl

theorem shift8_srl : shift8 .srl v carry = (v >>> 1, v.getLsbD 0) := rfl

end Values

/-- Settles O24: each sub-operation by the value and the bit shifted out of its own rule; the write and the flags are the shared operation's. -/
theorem shifts : Obligations.Shifts := by
  intro k o s v carry w out
  have result : shift8 k (s.readOperand o) s.regs.cf = (w, out) := by
    cases k with
    | rlc => exact shift8_rlc v s.regs.cf
    | rrc => exact shift8_rrc v s.regs.cf
    | rl => exact shift8_rl v s.regs.cf
    | rr => exact shift8_rr v s.regs.cf
    | sla => exact shift8_sla v s.regs.cf
    | sra => exact shift8_sra v s.regs.cf
    | swap => exact shift8_swap v s.regs.cf
    | srl => exact shift8_srl v s.regs.cf
  refine ⟨encode_shift k o, ?shifted⟩
  case shifted => rw [exec_shift, doShift_eq, result, cbCost_eq]

/-- Settles O25: the tested bit goes to Z alone; the cost over (HL) is the parameter's, value by value. -/
theorem bitTest : Obligations.BitTest := by
  intro b o s
  refine ⟨encode_bit b o, ?tested⟩
  case tested =>
    rw [exec_bit, doBit_eq, bitCost_eq]
    cases s.params.bitHlCost <;> rfl

/-- Settles O26: both write back the byte with one bit changed, whatever it was, and no flag. -/
theorem bitResetAndSet : Obligations.BitResetAndSet := by
  intro b o s v
  refine ⟨⟨encode_res b o, ?reset⟩, encode_set b o, ?set⟩
  case reset => rw [exec_res, doRes_eq, cbCost_eq]
  case set => rw [exec_set, doSet_eq, cbCost_eq]

end Sys2Proof.Machine
end

section
/-! PROOF. O47 and O49: the unit tick (60_exceptions.md R722 to R725). Only the tick that begins line 144 touches IF, and it sets bit 0; by its position in
the frame that is the tick to 65,664. -/

namespace Sys2Proof.Machine

theorem State.advance_add (m n : Nat) (s : State) : State.advance (m + n) s = State.advance n (State.advance m s) := by
  induction m generalizing s with
  | zero => rw [Nat.zero_add]; rfl
  | succ m ih => rw [Nat.add_right_comm]; exact ih s.tick

/-- What `advance` may change. -/
theorem State.advance_shape (c : Nat) (s : State) : State.advance c s =
    { s with
      ly := (State.advance c s).ly, dot := (State.advance c s).dot
      iflag := (State.advance c s).iflag, framebuffer := (State.advance c s).framebuffer } := by
  induction c generalizing s with
  | zero => rfl
  | succ c ih =>
    rw [State.advance]
    simpa using ih s.tick

/-! ## A tick, case by case (R723, R724) -/

section Tick

variable {s : State}

theorem State.tick_lineEnd (last : s.dot + 1 = 456) : s.tick =
    { s with dot := 0, ly := (s.ly + 1) % 154, iflag := if (s.ly + 1) % 154 = 144 then s.iflag ||| 1 else s.iflag } := by
  rw [State.tick, if_pos last]
  simp only [State.nextLine]
  split <;> rfl

theorem State.tick_inLine (inside : s.dot + 1 ≠ 456) : s.tick =
    if s.ly < 144 ∧ s.dot + 1 = 80 then { s with dot := s.dot + 1, framebuffer := s.framebuffer.set s.ly s.scanline }
    else { s with dot := s.dot + 1 } := by
  rw [State.tick, if_neg inside]
  rfl

end Tick

/-! ## The V-blank request (R725) -/

/-- Whether the next unit tick is the one at which `ly` becomes 144. -/
def State.entersVblank (s : State) : Bool := decide (s.dot + 1 = 456) && decide ((s.ly + 1) % 154 = 144)

/-- Whether one of the next unit ticks is. -/
def State.entersVblankWithin : Nat → State → Bool
  | 0, _ => false
  | c + 1, s => s.entersVblank || State.entersVblankWithin c s.tick

theorem State.tick_iflag (s : State) : s.tick.iflag = s.iflag ||| if s.entersVblank then 1 else 0 := by
  by_cases last : s.dot + 1 = 456
  · rw [State.tick_lineEnd last]
    by_cases vblank : (s.ly + 1) % 154 = 144 <;> simp [State.entersVblank, last, vblank]
  · rw [State.tick_inLine last]
    split <;> simp [State.entersVblank, last]

theorem State.advance_iflag (c : Nat) (s : State) :
    (State.advance c s).iflag = s.iflag ||| if State.entersVblankWithin c s then 1 else 0 := by
  induction c generalizing s with
  | zero => simp [State.advance, State.entersVblankWithin]
  | succ c ih =>
    rw [State.advance, ih, State.tick_iflag, State.entersVblankWithin, BitVec.or_assoc]
    cases s.entersVblank <;> cases State.entersVblankWithin c s.tick <;> rfl

/-! ## The position in the frame (R726) -/

/-- The place of a line and dot among the 70,224 ticks of a frame. -/
def State.position (s : State) : Nat := 456 * s.ly + s.dot

/-- The line and the dot are in range (10_state.md R45). -/
def State.InFrame (s : State) : Prop := s.ly < 154 ∧ s.dot < 456

theorem State.InFrame.tick {s : State} (range : s.InFrame) : s.tick.InFrame := by
  obtain ⟨hly, hdot⟩ := range
  by_cases last : s.dot + 1 = 456
  · rw [State.tick_lineEnd last]
    exact ⟨Nat.mod_lt _ (by decide), Nat.zero_lt_succ _⟩
  · have range : s.ly < 154 ∧ s.dot + 1 < 456 := ⟨hly, by omega⟩
    rw [State.tick_inLine last]
    split <;> exact range

theorem State.position_tick {s : State} (range : s.InFrame) : s.tick.position = (s.position + 1) % 70224 := by
  obtain ⟨hly, hdot⟩ := range
  by_cases last : s.dot + 1 = 456
  · have next : 456 * ((s.ly + 1) % 154) + 0 = (456 * s.ly + s.dot + 1) % 70224 := by omega
    rw [State.tick_lineEnd last]
    exact next
  · have next : 456 * s.ly + (s.dot + 1) = (456 * s.ly + s.dot + 1) % 70224 := by omega
    rw [State.tick_inLine last]
    split <;> exact next

/-- The tick that begins line 144 is the one to position 65,664. -/
theorem State.entersVblank_iff {s : State} (range : s.InFrame) :
    s.entersVblank = true ↔ (s.position + 1) % 70224 = 144 * 456 := by
  obtain ⟨hly, hdot⟩ := range
  simp only [State.entersVblank, State.position, Bool.and_eq_true, decide_eq_true_eq]
  omega

theorem State.entersVblankWithin_iff (c : Nat) {s : State} (range : s.InFrame) :
    State.entersVblankWithin c s = true ↔ ∃ k, 1 ≤ k ∧ k ≤ c ∧ (s.position + k) % 70224 = 144 * 456 := by
  induction c generalizing s with
  | zero => simp [State.entersVblankWithin]
  | succ c ih =>
    rw [State.entersVblankWithin, Bool.or_eq_true, State.entersVblank_iff range, ih range.tick, State.position_tick range]
    constructor
    · rintro (first | ⟨k, hk, hc, later⟩)
      · exact ⟨1, by omega, by omega, first⟩
      · exact ⟨k + 1, by omega, by omega, by omega⟩
    · rintro ⟨k, hk, hc, reached⟩
      rcases Nat.eq_or_lt_of_le hk with rfl | hk
      · exact .inl reached
      · exact .inr ⟨k - 1, by omega, by omega, by omega⟩

/-- Settles O47: the ticks compose, one tick is read case by case, and all of them together change what `advance_shape` names. -/
theorem advanceInTicks : Obligations.AdvanceInTicks := by
  intro m n s
  refine ⟨rfl, s.advance_add m n, ?tick,
    (State.advance m s).ly, (State.advance m s).dot, State.entersVblankWithin m s, (State.advance m s).framebuffer, ?frame⟩
  case tick =>
    change s.tick = _
    split
    next last => exact State.tick_lineEnd last
    next inside => exact State.tick_inLine inside
  case frame => rw [← State.advance_iflag]; exact State.advance_shape m s

/-- Settles O49: `advance` ors into IF bit 0 alone, and does so when one of its ticks reaches the position at which line 144 begins. -/
theorem vblankRequest : Obligations.VblankRequest := by
  intro c s hly hdot
  rw [State.advance_iflag]
  refine ⟨?request, fun j hj => ?other⟩
  case request =>
    have reached := State.entersVblankWithin_iff c ⟨hly, hdot⟩
    rw [State.position] at reached
    rw [← reached, BitVec.getLsbD_or, Bool.or_eq_true]
    cases State.entersVblankWithin c s <;> simp
  case other =>
    have upper : j ≠ 0 := Nat.pos_iff_ne_zero.1 hj
    rw [BitVec.getLsbD_or]
    cases State.entersVblankWithin c s <;> simp [BitVec.getLsbD_one, upper]

end Sys2Proof.Machine
end

section
/-! PROOF. O54: priority among the sprites of a line (60_exceptions.md R735). Sorting by X is the library's insertion sort; the winning sprite is the first
that shows in the sorted list, and inserting one more sprite changes that first one only where the new one shows and lies no further right. -/

namespace Sys2Proof.Machine

theorem insertByX_eq (o : Sprite) (sprites : List Sprite) : insertByX o sprites = sprites.orderedInsert (·.x ≤ ·.x) o := by
  induction sprites with
  | nil => rfl
  | cons p rest ih => rw [insertByX, List.orderedInsert_cons, ih]

theorem sortByX_eq (sprites : List Sprite) : sortByX sprites = sprites.insertionSort (·.x ≤ ·.x) := by
  induction sprites with
  | nil => rfl
  | cons o rest ih => rw [sortByX, ih, insertByX_eq, List.insertionSort_cons]

theorem mem_sortByX {sprites : List Sprite} {o : Sprite} : o ∈ sortByX sprites ↔ o ∈ sprites := by
  rw [sortByX_eq, List.mem_insertionSort]

theorem sortByX_sorted (sprites : List Sprite) : (sortByX sprites).Pairwise (·.x ≤ ·.x) := by
  have : Std.Total fun o p : Sprite => o.x ≤ p.x := ⟨fun o p => Nat.le_total o.x p.x⟩
  have : IsTrans Sprite fun o p => o.x ≤ p.x := ⟨fun _ _ _ => Nat.le_trans⟩
  exact sortByX_eq sprites ▸ List.pairwise_insertionSort _ sprites

/-- A sprite that does not show is passed over, wherever it is inserted. -/
theorem find?_insertByX_of_not {shows : Sprite → Bool} {o : Sprite} (hides : shows o = false) (sprites : List Sprite) :
    (insertByX o sprites).find? shows = sprites.find? shows := by
  induction sprites with
  | nil => simp [insertByX, hides]
  | cons p rest ih =>
    unfold insertByX
    split
    · rw [List.find?_cons_of_neg (by simp [hides])]
    · rw [List.find?_cons, List.find?_cons, ih]

/-- A sprite that shows comes first unless one strictly left of it came first before. -/
theorem find?_insertByX_of_shows {shows : Sprite → Bool} {o : Sprite} (hshows : shows o = true) {sprites : List Sprite}
    (sorted : sprites.Pairwise (·.x ≤ ·.x)) :
    (insertByX o sprites).find? shows = match sprites.find? shows with
      | none => some o
      | some q => if o.x ≤ q.x then some o else some q := by
  induction sprites with
  | nil => simp [insertByX, hshows]
  | cons p rest ih =>
    obtain ⟨least, sortedRest⟩ := List.pairwise_cons.1 sorted
    unfold insertByX
    split
    next front =>
      rw [List.find?_cons_of_pos hshows]
      split
      next => rfl
      next q found =>
        have before : o.x ≤ q.x := by
          rcases List.mem_cons.1 (List.mem_of_find?_eq_some found) with rfl | later
          · exact front
          · exact front.trans (least q later)
        rw [if_pos before]
    next behind =>
      cases hp : shows p with
      | true => rw [List.find?_cons_of_pos hp, List.find?_cons_of_pos hp]; exact (if_neg behind).symm
      | false =>
        have passed : ¬ shows p = true := by simp [hp]
        rw [List.find?_cons_of_neg passed, List.find?_cons_of_neg passed, ih sortedRest]

/-- `o` stands in the list with every sprite that shows before it strictly right of it, and none after it left of it (R735). -/
def Sprite.Leads (shows : Sprite → Bool) (sprites : List Sprite) (o : Sprite) : Prop :=
  ∃ before after, sprites = before ++ o :: after ∧
    (∀ p ∈ before, shows p = true → o.x < p.x) ∧ ∀ p ∈ after, shows p = true → o.x ≤ p.x

section Leads

variable {shows : Sprite → Bool} {sprites : List Sprite} {o p : Sprite}

theorem Sprite.Leads.cons (leads : o.Leads shows sprites) (right : shows p = true → o.x < p.x) : o.Leads shows (p :: sprites) := by
  obtain ⟨before, after, rfl, hbefore, hafter⟩ := leads
  exact ⟨p :: before, after, rfl, List.forall_mem_cons.2 ⟨right, hbefore⟩, hafter⟩

theorem Sprite.Leads.le (leads : o.Leads shows sprites) (mem : p ∈ sprites) (hshows : shows p = true) : o.x ≤ p.x := by
  obtain ⟨before, after, rfl, hbefore, hafter⟩ := leads
  rcases List.mem_append.1 mem with mem | mem
  · exact (hbefore p mem hshows).le
  · rcases List.mem_cons.1 mem with rfl | mem
    · exact le_rfl
    · exact hafter p mem hshows

theorem Sprite.leads_head (least : ∀ p ∈ sprites, shows p = true → o.x ≤ p.x) : o.Leads shows (o :: sprites) :=
  ⟨[], sprites, rfl, fun _ mem => absurd mem List.not_mem_nil, least⟩

end Leads

/-- The first sprite that shows, in the sorted list of those that cover the column, leads those that cover and show. -/
theorem leads_of_find?_sortByX (covers shows : Sprite → Bool) (sprites : List Sprite) (o : Sprite)
    (found : (sortByX (sprites.filter covers)).find? shows = some o) : o.Leads (fun p => covers p && shows p) sprites := by
  induction sprites generalizing o with
  | nil => cases found
  | cons p rest ih =>
    cases hc : covers p with
    | false =>
      rw [List.filter_cons_of_neg (by simp [hc])] at found
      exact (ih o found).cons (by simp [hc])
    | true =>
      rw [List.filter_cons_of_pos hc, sortByX] at found
      cases hs : shows p with
      | false =>
        rw [find?_insertByX_of_not hs] at found
        exact (ih o found).cons (by simp [hs])
      | true =>
        rw [find?_insertByX_of_shows hs (sortByX_sorted _)] at found
        split at found
        next none =>
          cases found
          refine Sprite.leads_head fun q mem hq => ?_
          obtain ⟨hcovers, hshows⟩ := Bool.and_eq_true_iff.1 hq
          exact absurd hshows (List.find?_eq_none.1 none q (mem_sortByX.2 (List.mem_filter.2 ⟨mem, hcovers⟩)))
        next q first =>
          split at found
          next before =>
            cases found
            exact Sprite.leads_head fun r mem hr => before.trans ((ih _ first).le mem hr)
          next behind =>
            cases found
            exact (ih _ first).cons fun _ => Nat.lt_of_not_le behind

/-- The winning sprite is the first that is not transparent, among those that cover the column, sorted by X. -/
theorem winningSprite_eq (m : Memory) (sprites : List Sprite) (ly h x : Nat) :
    winningSprite m sprites ly h x =
      ((sortByX (sprites.filter (·.covers x))).find? fun o => o.index m ly h x ≠ 0).map fun o => (o, o.index m ly h x) := by
  rw [winningSprite, List.head?_filter, List.find?_map]
  rfl

/-- Settles O54: the first sprite of the sorted list that shows leads the sprites that show; where there is none, no sprite shows. -/
theorem spritePriority : Obligations.SpritePriority := by
  intro m sprites ly h x shows
  rw [winningSprite_eq]
  cases found : (sortByX (sprites.filter (·.covers x))).find? fun o => o.index m ly h x ≠ 0 with
  | none =>
    intro p mem ⟨hcovers, hindex⟩
    have transparent := List.find?_eq_none.1 found p (mem_sortByX.2 (List.mem_filter.2 ⟨mem, hcovers⟩))
    exact transparent (decide_eq_true hindex)
  | some o =>
    have covers : o.covers x = true := (List.mem_filter.1 (mem_sortByX.1 (List.mem_of_find?_eq_some found))).2
    have coloured : o.index m ly h x ≠ 0 := by simpa using List.find?_some found
    obtain ⟨before, after, parts, hbefore, hafter⟩ := leads_of_find?_sortByX _ _ _ _ found
    have visible {p : Sprite} (hp : shows p) : (p.covers x && decide (p.index m ly h x ≠ 0)) = true :=
      Bool.and_eq_true_iff.2 ⟨hp.1, decide_eq_true hp.2⟩
    exact ⟨⟨covers, coloured⟩, rfl, before, after, parts,
      fun p mem hp => hbefore p mem (visible hp), fun p mem hp => hafter p mem (visible hp)⟩

end Sys2Proof.Machine
end

section
/-! PROOF. O51 to O53: the rendered row (60_exceptions.md R729 to R739). The model keeps its colour indices, rows and columns as natural numbers and reads
single bits; here these are the shifts, masks and integer comparisons of the rules. -/

namespace Sys2Proof.Machine

/-! ## Tiles (R731) -/

/-- A bit as a number is the rule's shift and mask. -/
theorem toNat_getLsbD (v : Byte) (n : Nat) : (v.getLsbD n).toNat = (v >>> n).toNat % 2 := by
  rw [← BitVec.testBit_toNat, Nat.toNat_testBit, BitVec.toNat_ushiftRight, Nat.shiftRight_eq_div_pow]

theorem tilePixel_eq (m : Memory) (base row col : Nat) :
    tilePixel m base row col =
      ((m.read (base + 2 * row + 1) >>> (7 - col)).toNat % 2) <<< 1 ||| (m.read (base + 2 * row) >>> (7 - col)).toNat % 2 := by
  rw [tilePixel, toNat_getLsbD, toNat_getLsbD, ← Nat.shiftLeft_add_eq_or_of_lt (Nat.mod_lt _ (by decide)), Nat.shiftLeft_eq]
  omega

/-- Settles O52: the three cases of R730, R732 and R738, each the pixel of a map's tile by `tilePixel_eq`. -/
theorem backgroundIndex : Obligations.BackgroundIndex := by
  intro s x lcdc tile
  have pixel (map cx cy : Nat) : mapPixel s.mem lcdc map cx cy = tile map cx cy := by
    rw [mapPixel, tilePixel_eq, bgTileBase, ← Nat.shiftRight_eq_div_pow cy 3, ← Nat.shiftRight_eq_div_pow cx 3]
  have window : s.windowCovers x = true ↔ lcdc.getLsbD 5 = true ∧ s.ly ≥ s.lcd.wy.toNat ∧ x + 7 ≥ s.lcd.wx.toNat := by
    simp [State.windowCovers, lcdc, and_assoc]
  cases off : lcdc.getLsbD 0 with
  | false => exact if_neg (Bool.eq_false_iff.1 off)
  | true =>
    rw [State.bgIndex, if_pos off, if_neg (c := true = false) nofun]
    by_cases covered : s.windowCovers x = true
    · rw [if_pos covered, if_pos (window.1 covered)]
      exact pixel ..
    · rw [if_neg covered, if_neg (mt window.2 covered)]
      exact pixel ..

/-! ## Sprites of a line (R733, R734) -/

section Sprites

variable (o : Sprite) (ly h x : Nat)

theorem Sprite.onLine_iff : o.onLine ly h = true ↔ (o.y : Int) - 16 ≤ ly ∧ (ly : Int) < o.y - 16 + h := by
  simp only [Sprite.onLine, Bool.and_eq_true, decide_eq_true_eq]
  omega

theorem Sprite.covers_iff : o.covers x = true ↔ (o.x : Int) - 8 ≤ x ∧ x < o.x := by
  simp only [Sprite.covers, Bool.and_eq_true, decide_eq_true_eq]
  omega

end Sprites

/-- A row or column below the size of its tile is flipped alike over the naturals and, as the rule does it, over the integers. -/
theorem flip_toNat (flip : Bool) {size pos : Nat} {ipos : Int} (hpos : ipos = pos) (below : pos < size) :
    (if flip then (size : Int) - 1 - ipos else ipos).toNat = if flip then size - 1 - pos else pos := by
  cases flip with
  | false => exact congrArg Int.toNat hpos
  | true =>
    change ((size : Int) - 1 - ipos).toNat = size - 1 - pos
    omega

/-- A sprite alone on its line wins where it is not transparent. -/
theorem winningSprite_singleton_eq_none_iff (m : Memory) {o : Sprite} (ly h : Nat) {x : Nat} (covers : o.covers x = true) :
    winningSprite m [o] ly h x = none ↔ o.index m ly h x = 0 := by
  simp [winningSprite_eq, covers, sortByX, insertByX]

/-- Settles O53: entry and selection are the model's, with integer comparisons; row and column lie below the sprite's height and width, so the flips agree. -/
theorem spriteSelection : Obligations.SpriteSelection := by
  intro s o i x h
  refine ⟨rfl, ?selected, o.covers_iff x, fun top bottom left right => ?pixel⟩
  case selected =>
    rw [State.lineSprites]
    congr 2
    funext o
    exact Bool.eq_iff_iff.2 ((o.onLine_iff s.ly h).trans decide_eq_true_iff.symm)
  case pixel =>
    intro row0 row tile col0 col line
    have hrow : row = if o.attr.getLsbD 6 then h - 1 - (s.ly + 16 - o.y) else s.ly + 16 - o.y :=
      flip_toNat _ (by omega) (by omega)
    have hcol : col = if o.attr.getLsbD 5 then 7 - (x + 8 - o.x) else x + 8 - o.x :=
      flip_toNat (size := 8) _ (by omega) (by omega)
    have hline : line = objTileBase tile + 2 * (row % 8) :=
      congrArg (objTileBase tile + 2 * ·) (Nat.and_two_pow_sub_one_eq_mod row 3)
    refine ⟨?index, winningSprite_singleton_eq_none_iff s.mem s.ly h ((o.covers_iff x).2 ⟨left, right⟩)⟩
    case index =>
      rw [Sprite.index, ← hrow, ← hcol, tilePixel_eq]
      rw [Nat.and_one_is_mod, Nat.and_one_is_mod, hline]
      simp only [tile, Nat.shiftRight_eq_div_pow]
      rfl

/-! ## Shades (R729, R736, R737, R739) -/

theorem paletteShade_eq (palette : Byte) (index : Nat) : paletteShade palette index = (palette >>> (2 * index)).extractLsb' 0 2 :=
  BitVec.setWidth_eq_extractLsb' (by decide)

theorem State.scanline_getElem? (s : State) {x : Nat} (hx : x < 160) : s.scanline[x]? = some (s.pixelShade s.lineSprites x) := by
  simp [State.scanline, Config.columns, hx]

/-- Settles O51: a row's column is its pixel's shade, which is split by LCDC bits 7 and 1, the winning sprite and its priority bit. -/
theorem rowShades : Obligations.RowShades := by
  intro s x hx lcdc h shade
  refine ⟨s.scanline_length, ?_⟩
  rw [s.scanline_getElem? hx, State.pixelShade]
  congr 1
  simp only [paletteShade_eq]
  cases display : lcdc.getLsbD 7 with
  | false => rfl
  | true =>
    rw [if_pos rfl, if_neg (c := true = false) nofun]
    cases sprites : lcdc.getLsbD 1 with
    | false => rfl
    | true =>
      rw [if_pos rfl, if_neg (c := true = false) nofun, spriteHeight]
      cases winningSprite s.mem s.lineSprites s.ly h x with
      | none => rfl
      | some winner =>
        obtain ⟨o, index⟩ := winner
        simp only [Bool.and_eq_true, decide_eq_true_eq]
        cases o.attr.getLsbD 4 <;> rfl

end Sys2Proof.Machine
end

section
/-! PROOF. O29 to O31: the encoder and the decoder (30_encoding.md R200 to R219). Decoding reads the entry of the first byte and as many operand bytes as it
takes; that each entry encodes to its own byte and operands is one walk over the primary map, that each instruction stands in a map one case split. -/

namespace Sys2Proof.Machine

/-! ## What decoding reads (R201, R215, R219) -/

section Decode

variable {op : Byte} {i : Instr} {f : Byte → Instr} {g : Word → Instr}

theorem decode_of_plain (entry : primary op = .plain i) (rest : List Byte) : decode (op :: rest) = .ok (i, rest) := by
  simp only [decode, entry]

theorem decode_of_imm8 (entry : primary op = .imm8 f) (n : Byte) (rest : List Byte) : decode (op :: n :: rest) = .ok (f n, rest) := by
  simp only [decode, entry]

/-- The two operand bytes are the word, low byte first. -/
theorem decode_of_imm16 (entry : primary op = .imm16 g) (nn : Word) (rest : List Byte) :
    decode (op :: encodeLow nn :: encodeHigh nn :: rest) = .ok (g nn, rest) := by
  simp only [decode, entry]
  exact congrArg (fun v => Except.ok (g v, rest)) (word_hiByte_loByte nn)

theorem decode_secondary (cb : Byte) (rest : List Byte) : decode (0xCB :: cb :: rest) = .ok (secondary cb, rest) := rfl

end Decode

/-! ## Each entry encodes to its own byte (R200, R216, R218) -/

/-- An instruction that is complete, whose encoding is these bytes, and whose row has their number. -/
def HasBytes (i : Instr) (bytes : List Byte) : Prop :=
  i.wf = true ∧ encode i = bytes ∧ i.row.length = bytes.length

/-- The instructions of an entry are encoded with `op` first, the operand after it; the one entry that leads to the 0xCB map is that of its byte. -/
def EncodedFrom (op : Byte) : Entry → Prop
  | .plain i => HasBytes i [op]
  | .imm8 f => ∀ n, HasBytes (f n) [op, n]
  | .imm16 f => ∀ nn, HasBytes (f nn) [op, encodeLow nn, encodeHigh nn]
  | .prefixed => op = 0xCB

/-- The walk over the 256 entries of the primary map (30_encoding.md section 6). -/
theorem primary_encodedFrom (op : Byte) : EncodedFrom op (primary op) := by
  obtain ⟨k, rfl⟩ : ∃ k : Fin 256, op = BitVec.ofFin k := ⟨op.toFin, rfl⟩
  fin_cases k
  all_goals first
    | exact ⟨rfl, rfl, rfl⟩
    | exact fun _ => ⟨rfl, rfl, rfl⟩
    | exact rfl

/-- So is each row of the 0xCB map (30_encoding.md section 7). -/
theorem secondary_hasBytes (cb : Byte) : HasBytes (secondary cb) [0xCB, cb] := by
  have row : (secondary cb).wf = true ∧ (secondary cb).row.length = 2 := by decide +revert
  exact ⟨row.1, encode_secondary cb, row.2⟩

theorem encodeLow_word (hi lo : Byte) : encodeLow (word hi lo) = lo := loByte_word hi lo

theorem encodeHigh_word (hi lo : Byte) : encodeHigh (word hi lo) = hi := hiByte_word hi lo

/-- The instruction that three bytes start with, by the entry of the first. -/
theorem entry_hasBytes (b0 b1 b2 : Byte) :
    ∃ (i : Instr) (bytes rest : List Byte), i = (primary b0).instr b1 b2 ∧ decode [b0, b1, b2] = .ok (i, rest) ∧
      HasBytes i bytes ∧ bytes ++ rest = [b0, b1, b2] ∧ bytes.length = (primary b0).length := by
  have encoded := primary_encodedFrom b0
  cases entry : primary b0 <;> rw [entry] at encoded
  case plain i => exact ⟨i, [b0], [b1, b2], rfl, decode_of_plain entry _, encoded, rfl, rfl⟩
  case imm8 f => exact ⟨f b1, [b0, b1], [b2], rfl, decode_of_imm8 entry b1 _, encoded b1, rfl, rfl⟩
  case imm16 f =>
    have decoded := decode_of_imm16 entry (word b2 b1) []
    have bytes := encoded (word b2 b1)
    rw [encodeLow_word, encodeHigh_word] at decoded bytes
    exact ⟨f (word b2 b1), [b0, b1, b2], [], rfl, decoded, bytes, rfl, rfl⟩
  case prefixed =>
    subst encoded
    exact ⟨secondary b1, [0xCB, b1], [b2], rfl, decode_secondary b1 _, secondary_hasBytes b1, rfl, rfl⟩

/-- Settles O30: the entry of the first byte gives the instruction, and its bytes are the entry's own. -/
theorem everyByteDecodes : Obligations.EveryByteDecodes := by
  intro b0 b1 b2
  obtain ⟨i, bytes, rest, -, decoded, ⟨wf, encoded, length⟩, all, count⟩ := entry_hasBytes b0 b1 b2
  subst encoded
  exact ⟨i, rest, decoded, wf, all, count.symm, length.symm⟩

/-! ## Each instruction stands in a map -/

/-- A row of the 0xCB map is read back whatever follows it. -/
theorem decode_encode_secondary (cb : Byte) (rest : List Byte) : decode (encode (secondary cb) ++ rest) = .ok (secondary cb, rest) := by
  rw [encode_secondary]
  rfl

/-- Settles O29: family by family, the first byte's entry is the instruction with its operand; the 0xCB row alone is no complete instruction. -/
theorem decodeOfEncode : Obligations.DecodeOfEncode := by
  intro i rest hwf
  induction i using instr_families with
  | h_ldRegReg dst r => cases dst <;> cases r <;> rfl
  | h_ldRegImm dst n => cases dst <;> rfl
  | h_ldRegMem dst => cases dst <;> rfl
  | h_ldMemReg r => cases r <;> rfl
  | h_ldPairImm p nn => cases p <;> exact decode_of_imm16 rfl nn rest
  | h_push q => cases q <;> rfl
  | h_pop q => cases q <;> rfl
  | h_alu op x =>
    cases x with
    | reg r => cases op <;> cases r <;> rfl
    | memHl => cases op <;> rfl
    | imm n => cases op <;> rfl
  | h_incReg r => cases r <;> rfl
  | h_decReg r => cases r <;> rfl
  | h_addHlPair p => cases p <;> rfl
  | h_incPair p => cases p <;> rfl
  | h_decPair p => cases p <;> rfl
  | h_jpCond cc nn => cases cc <;> exact decode_of_imm16 rfl nn rest
  | h_jrCond cc e => cases cc <;> rfl
  | h_callCond cc nn => cases cc <;> exact decode_of_imm16 rfl nn rest
  | h_retCond cc => cases cc <;> rfl
  | h_rst t => fin_cases t <;> rfl
  | h_illegal k => cases k <;> rfl
  | h_shift k o => rw [← secondary_shift]; exact decode_encode_secondary _ rest
  | h_bit b o => rw [← secondary_bit]; exact decode_encode_secondary _ rest
  | h_res b o => rw [← secondary_res]; exact decode_encode_secondary _ rest
  | h_set b o => rw [← secondary_set]; exact decode_encode_secondary _ rest
  | h_prefixCb cb => cases hwf
  -- The single rows: those with a word operand, and all others, whose bytes the decoder takes as they stand.
  | h_ldMemN16Sp nn | h_jpN16 nn | h_callN16 nn | h_ldMemN16A nn | h_ldAMemN16 nn => exact decode_of_imm16 rfl nn rest
  | _ => rfl

/-- What the machine fetches is a complete instruction, the one that the three bytes at the program counter start with. -/
theorem fetchInstr_decodes (s : State) :
    ∃ rest, decode [s.readByte s.regs.pc, s.readByte (s.regs.pc + 1), s.readByte (s.regs.pc + 2)] = .ok (s.fetchInstr, rest) ∧
      s.fetchInstr.wf = true := by
  obtain ⟨i, _, rest, entry, decoded, ⟨wf, -, -⟩, -⟩ :=
    entry_hasBytes (s.readByte s.regs.pc) (s.readByte (s.regs.pc + 1)) (s.readByte (s.regs.pc + 2))
  rw [State.fetchInstr, ← entry]
  exact ⟨rest, decoded, wf⟩

/-- Settles O31: each word by running the decoder on it. -/
theorem sampleWords : Obligations.SampleWords :=
  ⟨rfl, rfl, rfl, rfl, rfl, rfl, rfl, rfl, rfl, rfl⟩

end Sys2Proof.Machine
end

section
/-! PROOF. O37, O38, O39 and the instruction's part of O40, O41 and O58. What an instruction does to memory, to the flags and to the cycle total is one
relation between the states around it, held against its row of the opcode table and the addresses it stores to; one case split over the families settles it. -/

namespace Sys2Proof.Machine

/-! ## Rows and addresses of the families (30_encoding.md sections 6 and 7) -/

section Rows

variable (dst r : Reg8) (n : Byte) (nn : Word) (p : Pair) (q : StackPair) (op : AluOp) (x : AluSrc) (cc : Cond) (e : Byte) (y b : Fin 8)
  (k : ShiftOp) (o : Operand8) (s : State)

theorem row_ldRegReg : (Instr.ldRegReg dst r).row = .plain 1 4 .keep .keep .keep .keep := by cases dst <;> cases r <;> rfl
theorem row_ldRegImm : (Instr.ldRegImm dst n).row = .plain 2 8 .keep .keep .keep .keep := by cases dst <;> rfl
theorem row_ldRegMem : (Instr.ldRegMem dst).row = .plain 1 8 .keep .keep .keep .keep := by cases dst <;> rfl
theorem row_ldMemReg : (Instr.ldMemReg r).row = .plain 1 8 .keep .keep .keep .keep := by cases r <;> rfl
theorem row_ldPairImm : (Instr.ldPairImm p nn).row = .plain 3 12 .keep .keep .keep .keep := by cases p <;> rfl
theorem row_push : (Instr.push q).row = .plain 1 16 .keep .keep .keep .keep := by cases q <;> rfl
theorem row_incReg : (Instr.incReg r).row = .plain 1 4 .result .zero .result .keep := by cases r <;> rfl
theorem row_decReg : (Instr.decReg r).row = .plain 1 4 .result .one .result .keep := by cases r <;> rfl
theorem row_addHlPair : (Instr.addHlPair p).row = .plain 1 8 .keep .zero .result .result := by cases p <;> rfl
theorem row_incPair : (Instr.incPair p).row = .plain 1 8 .keep .keep .keep .keep := by cases p <;> rfl
theorem row_decPair : (Instr.decPair p).row = .plain 1 8 .keep .keep .keep .keep := by cases p <;> rfl
theorem row_jpCond : (Instr.jpCond cc nn).row = .branch 3 16 12 := by cases cc <;> rfl
theorem row_jrCond : (Instr.jrCond cc e).row = .branch 2 12 8 := by cases cc <;> rfl
theorem row_callCond : (Instr.callCond cc nn).row = .branch 3 24 12 := by cases cc <;> rfl
theorem row_retCond : (Instr.retCond cc).row = .branch 1 20 8 := by cases cc <;> rfl
theorem row_rst : (Instr.rst y).row = .plain 1 16 .keep .keep .keep .keep := by fin_cases y <;> rfl
theorem row_illegal (k : IllegalOp) : (Instr.illegal k).row = .costless 1 := by cases k <;> rfl
theorem row_bit : (Instr.bit b o).row = .plain 2 (if o = .memHl then 16 else 8) .result .zero .one .keep := by
  fin_cases b <;> rcases o with (_ | _ | _ | _ | _ | _ | _) | _ <;> rfl
theorem row_res : (Instr.res b o).row = .plain 2 (cbCost o) .keep .keep .keep .keep := by
  fin_cases b <;> rcases o with (_ | _ | _ | _ | _ | _ | _) | _ <;> rfl
theorem row_set : (Instr.set b o).row = .plain 2 (cbCost o) .keep .keep .keep .keep := by
  fin_cases b <;> rcases o with (_ | _ | _ | _ | _ | _ | _) | _ <;> rfl

/-- Only a pop into AF writes F. -/
theorem row_pop : (Instr.pop q).row =
    if q = .af then .plain 1 12 .result .result .result .result else .plain 1 12 .keep .keep .keep .keep := by
  cases q <;> rfl

/-- The letters of N, H and C by the operation: sums, differences, and the logical results. -/
theorem row_alu : (Instr.alu op x).row = match op with
    | .add | .adc => .plain (aluLength x) (aluCost x) .result .zero .result .result
    | .sub | .sbc | .cp => .plain (aluLength x) (aluCost x) .result .one .result .result
    | .and => .plain (aluLength x) (aluCost x) .result .zero .one .zero
    | .xor | .or => .plain (aluLength x) (aluCost x) .result .zero .zero .zero := by
  cases op <;> rcases x with (_ | _ | _ | _ | _ | _ | _) | _ | _ <;> rfl

/-- SWAP shifts no bit out. -/
theorem row_shift : (Instr.shift k o).row = .plain 2 (cbCost o) .result .zero .zero (if k = .swap then .zero else .result) := by
  cases k <;> rcases o with (_ | _ | _ | _ | _ | _ | _) | _ <;> rfl

theorem storesOf_ldRegReg : storesOf (Instr.ldRegReg dst r) s = [] := by cases dst <;> cases r <;> rfl
theorem storesOf_ldRegImm : storesOf (Instr.ldRegImm dst n) s = [] := by cases dst <;> rfl
theorem storesOf_ldRegMem : storesOf (Instr.ldRegMem dst) s = [] := by cases dst <;> rfl
theorem storesOf_ldMemReg : storesOf (Instr.ldMemReg r) s = [s.regs.hl] := by cases r <;> rfl
theorem storesOf_ldPairImm : storesOf (Instr.ldPairImm p nn) s = [] := by cases p <;> rfl
theorem storesOf_push : storesOf (Instr.push q) s = pushAddresses s.regs := by cases q <;> rfl
theorem storesOf_pop : storesOf (Instr.pop q) s = [] := by cases q <;> rfl
theorem storesOf_alu : storesOf (Instr.alu op x) s = [] := by
  cases op <;> rcases x with (_ | _ | _ | _ | _ | _ | _) | _ | _ <;> rfl
theorem storesOf_incReg : storesOf (Instr.incReg r) s = [] := by cases r <;> rfl
theorem storesOf_decReg : storesOf (Instr.decReg r) s = [] := by cases r <;> rfl
theorem storesOf_addHlPair : storesOf (Instr.addHlPair p) s = [] := by cases p <;> rfl
theorem storesOf_incPair : storesOf (Instr.incPair p) s = [] := by cases p <;> rfl
theorem storesOf_decPair : storesOf (Instr.decPair p) s = [] := by cases p <;> rfl
theorem storesOf_jpCond : storesOf (Instr.jpCond cc nn) s = [] := by cases cc <;> rfl
theorem storesOf_jrCond : storesOf (Instr.jrCond cc e) s = [] := by cases cc <;> rfl
theorem storesOf_callCond : storesOf (Instr.callCond cc nn) s = if s.regs.cond cc then pushAddresses s.regs else [] := by cases cc <;> rfl
theorem storesOf_retCond : storesOf (Instr.retCond cc) s = [] := by cases cc <;> rfl
theorem storesOf_rst : storesOf (Instr.rst y) s = pushAddresses s.regs := by fin_cases y <;> rfl
theorem storesOf_illegal (k : IllegalOp) : storesOf (Instr.illegal k) s = [] := by cases k <;> rfl
theorem storesOf_bit : storesOf (Instr.bit b o) s = [] := by
  fin_cases b <;> rcases o with (_ | _ | _ | _ | _ | _ | _) | _ <;> rfl

/-- What writing back an operand stores to. -/
def Operand8.storeAddresses (s : State) : Operand8 → List Word
  | .reg _ => []
  | .memHl => [s.regs.hl]

theorem storesOf_shift : storesOf (Instr.shift k o) s = Operand8.storeAddresses s o := by
  cases k <;> rcases o with (_ | _ | _ | _ | _ | _ | _) | _ <;> rfl
theorem storesOf_res : storesOf (Instr.res b o) s = Operand8.storeAddresses s o := by
  fin_cases b <;> rcases o with (_ | _ | _ | _ | _ | _ | _) | _ <;> rfl
theorem storesOf_set : storesOf (Instr.set b o) s = Operand8.storeAddresses s o := by
  fin_cases b <;> rcases o with (_ | _ | _ | _ | _ | _ | _) | _ <;> rfl

end Rows

/-! ## The flags a row declares (00_scope.md section 5) -/

/-- The flags after are as the row's letters say, and the low nibble of F stays zero. -/
structure FlagsFollow (row : Row) (before after : Regs) : Prop where
  z : flagHolds row.z before.zf after.zf
  n : flagHolds row.n before.nf after.nf
  h : flagHolds row.h before.hf after.hf
  c : flagHolds row.c before.cf after.cf
  low : before.f &&& 0x0F = 0 → after.f &&& 0x0F = 0

/-- The row declares no flag written. -/
def KeepsFlags (row : Row) : Prop := row.z = .keep ∧ row.n = .keep ∧ row.h = .keep ∧ row.c = .keep

/-- A packed F holds the four flags it was packed from, and a zero low nibble (10_state.md R31, R32). -/
theorem packFlags_fields (z n h c : Bool) :
    (packFlags z n h c).getLsbD 7 = z ∧ (packFlags z n h c).getLsbD 6 = n ∧ (packFlags z n h c).getLsbD 5 = h ∧
      (packFlags z n h c).getLsbD 4 = c ∧ packFlags z n h c &&& 0x0F = 0 := by
  decide +revert

section Flags

variable {row : Row} {before after : Regs}

theorem FlagsFollow.keep (same : after.f = before.f) (letters : KeepsFlags row := by exact ⟨rfl, rfl, rfl, rfl⟩) :
    FlagsFollow row before after := by
  obtain ⟨hz, hn, hh, hc⟩ := letters
  constructor <;> simp [flagHolds, Regs.zf, Regs.nf, Regs.hf, Regs.cf, same, hz, hn, hh, hc]

/-- Where F is packed from four flags, each letter is asked of its own. -/
theorem FlagsFollow.packed {z n h c : Bool} (packed : after.f = packFlags z n h c) (hz : flagHolds row.z before.zf z)
    (hn : flagHolds row.n before.nf n) (hh : flagHolds row.h before.hf h) (hc : flagHolds row.c before.cf c) :
    FlagsFollow row before after := by
  obtain ⟨bz, bn, bh, bc, low⟩ := packFlags_fields z n h c
  constructor
  case low => exact fun _ => packed ▸ low
  all_goals simpa only [Regs.zf, Regs.nf, Regs.hf, Regs.cf, packed, bz, bn, bh, bc]

end Flags

/-! ## Stores (20_memory.md) -/

/-- The state after bytes are stored at addresses, in order. -/
def State.storeAll (s : State) : List (Word × Byte) → State
  | [] => s
  | (a, v) :: stores => (s.writeByte a v).storeAll stores

/-- What every write keeps, a list of them keeps. -/
theorem State.storeAll_keeps {motive : State → Prop} (write : ∀ t a v, motive t → motive (t.writeByte a v)) {s : State} (h : motive s)
    (stores : List (Word × Byte)) : motive (s.storeAll stores) := by
  induction stores generalizing s with
  | nil => exact h
  | cons store _ ih => exact ih (write s store.1 store.2 h)

theorem State.storeAll_regs (s : State) (stores : List (Word × Byte)) : (s.storeAll stores).regs = s.regs :=
  State.storeAll_keeps (motive := fun t => t.regs = s.regs) (fun _ _ _ h => by simpa using h) rfl stores

theorem State.storeAll_cycles (s : State) (stores : List (Word × Byte)) : (s.storeAll stores).cycles = s.cycles :=
  State.storeAll_keeps (motive := fun t => t.cycles = s.cycles) (fun _ _ _ h => by simpa using h) rfl stores

theorem State.storeAll_fault (s : State) (stores : List (Word × Byte)) : (s.storeAll stores).fault = s.fault :=
  State.storeAll_keeps (motive := fun t => t.fault = s.fault) (fun _ _ _ h => by simpa using h) rfl stores

/-! ## What an instruction does, by its row and its addresses -/

/-- The stores at these addresses are all that moves outside the core. -/
def StoresAt (addresses : List Word) (s t : State) : Prop :=
  ∃ stores : List (Word × Byte), stores.map Prod.fst = addresses ∧
    t = { s.storeAll stores with regs := t.regs, ime := t.ime, halted := t.halted, fault := t.fault, cycles := t.cycles }

/-- The cost counted is the row's `cycles`, or its `cycles_not_taken` where nothing but the pc moved; a parameter other than the table's value for
`BIT b,(HL)` may stand in its place (46_cb_prefix.md R602). -/
def Charged (row : Row) (s t : State) : Prop :=
  ∃ cost, t.cycles = s.cycles + cost ∧ (4 ≤ cost ∧ cost ≤ 24) ∧
    (row.cycles = some cost ∨ row.notTaken = some cost ∧ t = s.retires row.length cost id ∨ s.params.bitHlCost ≠ .source)

/-- From `s` to `t` an instruction of this row has stored to these addresses, written the flags its row declares, and counted its cost or taken the
fault, which costs nothing (60_exceptions.md R702). -/
structure Ran (row : Row) (addresses : List Word) (s t : State) : Prop where
  stores : StoresAt addresses s t
  flags : FlagsFollow row s.regs t.regs
  price : t.fault = s.fault ∧ Charged row s t ∨ t.fault ≠ none ∧ t.cycles = s.cycles

/-- The outcome is a next state of such a run. -/
def Runs (row : Row) (addresses : List Word) (s : State) (o : Out) : Prop := ∃ t, o = .next t ∧ Ran row addresses s t

section Runs

variable {row : Row} {addresses : List Word} {s t : State} {o o' : Out} {len cost : Nat} {f : Regs → Regs}

theorem Runs.of_eq (h : o = o') (runs : Runs row addresses s o') : Runs row addresses s o := h ▸ runs

/-- The general case: stores, then changes of the core. -/
theorem Runs.of_stores (stores : List (Word × Byte)) (price : row.cycles = some cost)
    (shape : t = { s.storeAll stores with regs := t.regs, ime := t.ime, halted := t.halted, cycles := s.cycles + cost })
    (flags : FlagsFollow row s.regs t.regs) (range : 4 ≤ cost ∧ cost ≤ 24 := by decide) :
    Runs row (stores.map Prod.fst) s (.next t) := by
  have fault : t.fault = s.fault := by rw [shape]; exact s.storeAll_fault stores
  have cycles : t.cycles = s.cycles + cost := by rw [shape]
  refine ⟨t, rfl, ⟨stores, rfl, ?_⟩, flags, .inl ⟨fault, cost, cycles, range, .inl price⟩⟩
  rw [fault, cycles, ← s.storeAll_fault stores]
  exact shape

theorem Runs.retires (stores : List (Word × Byte)) (price : row.cycles = some cost) (flags : FlagsFollow row s.regs (f s.regs))
    (range : 4 ≤ cost ∧ cost ≤ 24 := by decide) :
    Runs row (stores.map Prod.fst) s (.next ((s.storeAll stores).retires len cost f)) := by
  refine Runs.of_stores stores price ?_ ?_ range
  · simp only [State.retires, State.storeAll_cycles]
  · simp only [State.retires, State.storeAll_regs]
    exact { flags with }

theorem Runs.jumps {target : Word} (stores : List (Word × Byte)) (price : row.cycles = some cost) (flags : FlagsFollow row s.regs (f s.regs))
    (range : 4 ≤ cost ∧ cost ≤ 24 := by decide) :
    Runs row (stores.map Prod.fst) s (.next ((s.storeAll stores).jumps target cost f)) := by
  refine Runs.of_stores stores price ?_ ?_ range
  · simp only [State.jumps, State.storeAll_cycles]
  · simp only [State.jumps]
    rw [s.storeAll_regs]
    exact { flags with }

/-- A conditional transfer not taken (30_encoding.md R220). -/
theorem Runs.notTaken (price : row.notTaken = some cost) (length : row.length = len) (letters : KeepsFlags row)
    (range : 4 ≤ cost ∧ cost ≤ 24 := by decide) : Runs row [] s (.next (s.retires len cost id)) := by
  subst length
  exact ⟨_, rfl, ⟨[], rfl, rfl⟩, .keep rfl letters, .inl ⟨rfl, cost, rfl, range, .inr (.inl ⟨price, rfl⟩)⟩⟩

/-- A conditional transfer in both outcomes. -/
theorem Runs.branch {taken notTaken : Nat} {cc : Cond} {target : Word} (stores : List (Word × Byte)) (same : (f s.regs).f = s.regs.f)
    (range : (4 ≤ taken ∧ taken ≤ 24) ∧ 4 ≤ notTaken ∧ notTaken ≤ 24 := by decide) :
    Runs (.branch len taken notTaken) (if s.regs.cond cc then stores.map Prod.fst else []) s
      (.next (if s.regs.cond cc then (s.storeAll stores).jumps target taken f else s.retires len notTaken id)) := by
  split
  · exact .jumps stores rfl (.keep same) range.1
  · exact .notTaken rfl rfl ⟨rfl, rfl, rfl, rfl⟩ range.2

theorem Runs.branch_of_no_stores {taken notTaken : Nat} {cc : Cond} {target : Word} (same : (f s.regs).f = s.regs.f)
    (range : (4 ≤ taken ∧ taken ≤ 24) ∧ 4 ≤ notTaken ∧ notTaken ≤ 24 := by decide) :
    Runs (.branch len taken notTaken) [] s
      (.next (if s.regs.cond cc then s.jumps target taken f else s.retires len notTaken id)) := by
  have runs := Runs.branch (len := len) (cc := cc) (target := target) [] same range
  rwa [List.map_nil, ite_self] at runs

/-- The fault taken (60_exceptions.md R702). -/
theorem Runs.raiseIllegal {op : Byte} (letters : KeepsFlags row) : Runs row [] s (raiseIllegal op s) :=
  ⟨_, raiseIllegal_eq op s, ⟨[], rfl, rfl⟩, .keep rfl letters, .inr ⟨by simp, rfl⟩⟩

end Runs

/-! ## The shared operations as runs -/

section Operations

variable {row : Row} {len cost : Nat} (s : State)

theorem cbCost_range (o : Operand8) : 4 ≤ cbCost o ∧ cbCost o ≤ 24 := by cases o <;> simp [cbCost]

theorem aluCost_range (x : AluSrc) : 4 ≤ aluCost x ∧ aluCost x ≤ 24 := by cases x <;> simp [aluCost]

theorem bitCost_range (params : Config.Params) (o : Operand8) : 4 ≤ bitCost params o ∧ bitCost params o ≤ 24 := by
  cases o with
  | reg r => simp [bitCost]
  | memHl => cases choice : params.bitHlCost <;> simp [bitCost, choice, Config.BitHlCost.cycles]

/-- A result written back to its operand; only `f` writes flags. -/
theorem Runs.writesBack {o : Operand8} {v : Byte} {f : Regs → Regs} (price : row.cycles = some (cbCost o))
    (flags : ∀ g : Regs, g.f = s.regs.f → FlagsFollow row s.regs (f g)) :
    Runs row (Operand8.storeAddresses s o) s (.next ((s.writeOperand o v).retires 2 (cbCost o) f)) := by
  cases o with
  | reg r =>
    have follow := flags (s.regs.set r v) (by cases r <;> rfl)
    exact .of_stores [] price rfl { follow with } (cbCost_range _)
  | memHl => exact .retires [(s.regs.hl, v)] price (flags s.regs rfl)

theorem runs_doLoadA (address : Regs → Word) {a : Word} (ha : address (s.skip len).regs = a) (price : row.cycles = some cost)
    (letters : KeepsFlags row) (range : 4 ≤ cost ∧ cost ≤ 24 := by decide) : Runs row [] s (doLoadA len cost address s) :=
  .of_eq (doLoadA_eq s address ha) (.retires [] price (.keep rfl letters) range)

theorem runs_doStoreA (address : Regs → Word) {a : Word} (ha : address (s.skip len).regs = a) (price : row.cycles = some cost)
    (letters : KeepsFlags row) (range : 4 ≤ cost ∧ cost ≤ 24 := by decide) : Runs row [a] s (doStoreA len cost address s) :=
  .of_eq (doStoreA_eq s address ha) (.retires [(a, s.regs.a)] price (.keep rfl letters) range)

/-- Z, N and H are cleared whatever the rotate; C is the bit shifted out. -/
theorem runs_doRotateA (k : ShiftOp) : Runs (.plain 1 4 .zero .zero .zero .result) [] s (doRotateA k s) :=
  .of_eq (doRotateA_eq k s) (.retires [] rfl (.packed rfl rfl rfl rfl trivial))

/-- The flags of an operation are those its letters name. -/
theorem runs_doAlu (op : AluOp) (x : AluSrc) : Runs (Instr.alu op x).row [] s (doAlu op x s) := by
  rw [row_alu]
  refine .of_eq (doAlu_eq op x s) ?_
  cases op with
  | add | adc | sub | sbc | cp => exact .retires [] rfl (.packed rfl trivial rfl trivial trivial) (aluCost_range x)
  | and | xor | or => exact .retires [] rfl (.packed rfl trivial rfl rfl rfl) (aluCost_range x)

theorem runs_doShift (k : ShiftOp) (o : Operand8) :
    Runs (Instr.shift k o).row (Operand8.storeAddresses s o) s (doShift k o s) := by
  rw [row_shift]
  refine .of_eq (doShift_eq k o s) (.writesBack s rfl fun g _ => .packed rfl trivial rfl rfl ?_)
  cases k with
  | swap => rfl
  | _ => trivial

/-- `BIT b,(HL)` costs what the parameter says (46_cb_prefix.md R602). -/
theorem runs_doBit (b : Fin 8) (o : Operand8) : Runs (Instr.bit b o).row [] s (doBit b o s) := by
  rw [row_bit]
  have flags {g : Regs} {c : Nat} {z : Bool} (same : g.f = packFlags z false true s.regs.cf) :
      FlagsFollow (.plain 2 c .result .zero .one .keep) s.regs g := .packed same trivial rfl rfl rfl
  refine .of_eq (doBit_eq b o s) ⟨_, rfl, ⟨[], rfl, rfl⟩, flags rfl, .inl ⟨rfl, bitCost s.params o, rfl, bitCost_range s.params o, ?_⟩⟩
  cases o with
  | reg r => exact .inl rfl
  | memHl =>
    cases choice : s.params.bitHlCost with
    | source => rw [bitCost, choice]; exact .inl rfl
    | console => exact .inr (.inr nofun)

theorem runs_doRes (b : Fin 8) (o : Operand8) : Runs (Instr.res b o).row (Operand8.storeAddresses s o) s (doRes b o s) := by
  rw [row_res]
  exact .of_eq (doRes_eq b o s) (.writesBack s rfl fun _ same => .keep same)

theorem runs_doSet (b : Fin 8) (o : Operand8) : Runs (Instr.set b o).row (Operand8.storeAddresses s o) s (doSet b o s) := by
  rw [row_set]
  exact .of_eq (doSet_eq b o s) (.writesBack s rfl fun _ same => .keep same)

/-- Into AF the low nibble of F is masked; into no other pair is F written. -/
theorem runs_doPop (q : StackPair) : Runs (Instr.pop q).row [] s (doPop q s) := by
  refine .of_eq (doPop_eq s q) ?_
  cases q with
  | af =>
    have masked (v : Byte) : v &&& 0xF0 &&& 0x0F = 0 := by decide +revert
    exact .retires [] rfl ⟨trivial, trivial, trivial, trivial, fun _ => masked _⟩
  | bc | de | hl => exact .retires [] rfl (.keep rfl)

theorem runs_doStop : Runs (.plain 2 4 .keep .keep .keep .keep) [] s (doStop s) := by
  rw [doStop]
  split
  · exact .raiseIllegal ⟨rfl, rfl, rfl, rfl⟩
  · exact .retires [] rfl (f := id) (.keep rfl)

theorem runs_doSetIme (on : Bool) : Runs (.plain 1 4 .keep .keep .keep .keep) [] s (doSetIme on s) :=
  .of_eq (doSetIme_eq on s) (.of_stores [] rfl rfl (.keep rfl))

theorem runs_doHalt : Runs (.plain 1 4 .keep .keep .keep .keep) [] s (doHalt s) :=
  .of_eq (doHalt_eq s) (.of_stores [] rfl rfl (.keep rfl))

theorem runs_doReti : Runs (.plain 1 16 .keep .keep .keep .keep) [] s (doReti s) :=
  .of_eq (doReti_jumps s) (.of_stores [] rfl rfl (.keep rfl))

/-- A word is pushed high byte first. -/
theorem State.pushed_eq (v : Word) : s.pushed v = s.storeAll [(s.regs.sp - 1, hiByte v), (s.regs.sp - 2, loByte v)] := rfl

end Operations

/-- Every complete instruction runs by its row, to the addresses it stores to, family by family. -/
theorem exec_runs (i : Instr) (s : State) (complete : ∀ cb, i ≠ .prefixCb cb) : Runs i.row (storesOf i s) s (exec i s) := by
  induction i using instr_families with
  | h_ldRegReg dst r =>
    rw [exec_ldRegReg, doLdRegReg_eq, row_ldRegReg, storesOf_ldRegReg]
    exact .retires [] rfl (.keep (by cases dst <;> rfl))
  | h_ldRegImm dst n =>
    rw [exec_ldRegImm, doLdRegImm_eq, row_ldRegImm, storesOf_ldRegImm]
    exact .retires [] rfl (.keep (by cases dst <;> rfl))
  | h_ldRegMem dst =>
    rw [exec_ldRegMem, doLdRegMem_eq, row_ldRegMem, storesOf_ldRegMem]
    exact .retires [] rfl (.keep (by cases dst <;> rfl))
  | h_ldMemReg r =>
    rw [exec_ldMemReg, doLdMemReg_eq, row_ldMemReg, storesOf_ldMemReg]
    exact .retires [(_, _)] rfl (.keep rfl)
  | h_ldPairImm p nn =>
    rw [exec_ldPairImm, doLdPairImm_eq, row_ldPairImm, storesOf_ldPairImm]
    exact .retires [] rfl (.keep (by cases p <;> rfl))
  | h_push q =>
    rw [exec_push, doPush_eq, row_push, storesOf_push]
    exact .retires [(_, _), (_, _)] rfl (.keep rfl)
  | h_pop q => rw [exec_pop, storesOf_pop]; exact runs_doPop s q
  | h_alu op x => rw [exec_alu, storesOf_alu]; exact runs_doAlu s op x
  | h_incReg r =>
    rw [exec_incReg, doIncReg_eq, row_incReg, storesOf_incReg]
    exact .retires [] rfl (.packed rfl trivial rfl trivial rfl)
  | h_decReg r =>
    rw [exec_decReg, doDecReg_eq, row_decReg, storesOf_decReg]
    exact .retires [] rfl (.packed rfl trivial rfl trivial rfl)
  | h_addHlPair p =>
    rw [exec_addHlPair, doAddHlPair_eq, row_addHlPair, storesOf_addHlPair]
    exact .retires [] rfl (.packed rfl rfl rfl trivial trivial)
  | h_incPair p =>
    rw [exec_incPair, doIncPair_eq, row_incPair, storesOf_incPair]
    exact .retires [] rfl (.keep (by cases p <;> rfl))
  | h_decPair p =>
    rw [exec_decPair, doDecPair_eq, row_decPair, storesOf_decPair]
    exact .retires [] rfl (.keep (by cases p <;> rfl))
  | h_jpCond cc nn =>
    rw [exec_jpCond, doJpCond_eq, row_jpCond, storesOf_jpCond]
    exact .branch_of_no_stores rfl
  | h_jrCond cc e =>
    rw [exec_jrCond, doJrCond_eq, row_jrCond, storesOf_jrCond]
    exact .branch_of_no_stores rfl
  | h_callCond cc nn =>
    rw [exec_callCond, doCallCond_eq, row_callCond, storesOf_callCond]
    exact .branch [(_, _), (_, _)] rfl
  | h_retCond cc =>
    rw [exec_retCond, doRetCond_eq, row_retCond, storesOf_retCond]
    exact .branch_of_no_stores rfl
  | h_rst t =>
    rw [exec_rst, doRst_eq, row_rst, storesOf_rst]
    exact .jumps [(_, _), (_, _)] rfl (.keep rfl)
  | h_illegal k =>
    rw [exec_illegal, row_illegal, storesOf_illegal]
    exact .raiseIllegal ⟨rfl, rfl, rfl, rfl⟩
  | h_shift k o => rw [exec_shift, storesOf_shift]; exact runs_doShift s k o
  | h_bit b o => rw [exec_bit, storesOf_bit]; exact runs_doBit s b o
  | h_res b o => rw [exec_res, storesOf_res]; exact runs_doRes s b o
  | h_set b o => rw [exec_set, storesOf_set]; exact runs_doSet s b o
  | h_prefixCb cb => exact absurd rfl (complete cb)
  | h_nop => exact .retires [] rfl (f := id) (.keep rfl)
  | h_ldMemBcA => exact runs_doStoreA s Regs.bc rfl rfl ⟨rfl, rfl, rfl, rfl⟩
  | h_ldMemDeA => exact runs_doStoreA s Regs.de rfl rfl ⟨rfl, rfl, rfl, rfl⟩
  | h_ldhMemN8A n => exact runs_doStoreA s (fun _ => highPage n) rfl rfl ⟨rfl, rfl, rfl, rfl⟩
  | h_ldMemCA => exact runs_doStoreA s (fun g => highPage g.c) rfl rfl ⟨rfl, rfl, rfl, rfl⟩
  | h_ldMemN16A nn => exact runs_doStoreA s (fun _ => nn) rfl rfl ⟨rfl, rfl, rfl, rfl⟩
  | h_ldAMemBc => exact runs_doLoadA s Regs.bc rfl rfl ⟨rfl, rfl, rfl, rfl⟩
  | h_ldAMemDe => exact runs_doLoadA s Regs.de rfl rfl ⟨rfl, rfl, rfl, rfl⟩
  | h_ldhAMemN8 n => exact runs_doLoadA s (fun _ => highPage n) rfl rfl ⟨rfl, rfl, rfl, rfl⟩
  | h_ldAMemC => exact runs_doLoadA s (fun g => highPage g.c) rfl rfl ⟨rfl, rfl, rfl, rfl⟩
  | h_ldAMemN16 nn => exact runs_doLoadA s (fun _ => nn) rfl rfl ⟨rfl, rfl, rfl, rfl⟩
  | h_ldMemHlIncA => exact .of_eq (doStoreAStep_eq s (· + 1)) (.retires [(_, _)] rfl (.keep rfl))
  | h_ldMemHlDecA => exact .of_eq (doStoreAStep_eq s (· - 1)) (.retires [(_, _)] rfl (.keep rfl))
  | h_ldAMemHlInc => exact .of_eq (doLoadAStep_eq s (· + 1)) (.retires [] rfl (.keep rfl))
  | h_ldAMemHlDec => exact .of_eq (doLoadAStep_eq s (· - 1)) (.retires [] rfl (.keep rfl))
  | h_ldMemHlN8 n => exact .of_eq (doLdMemImm_eq n s) (.retires [(_, _)] rfl (.keep rfl))
  | h_ldMemN16Sp nn => exact .of_eq (doLdMemSp_eq nn s) (.retires [(_, _), (_, _)] rfl (.keep rfl))
  | h_ldSpHl => exact .retires [] rfl (f := fun g => { g with sp := s.regs.hl }) (.keep rfl)
  | h_rlca => exact runs_doRotateA s .rlc
  | h_rrca => exact runs_doRotateA s .rrc
  | h_rla => exact runs_doRotateA s .rl
  | h_rra => exact runs_doRotateA s .rr
  | h_incMemHl => exact .of_eq (doIncMem_eq s) (.retires [(_, _)] rfl (.packed rfl trivial rfl trivial rfl))
  | h_decMemHl => exact .of_eq (doDecMem_eq s) (.retires [(_, _)] rfl (.packed rfl trivial rfl trivial rfl))
  | h_daa => exact .of_eq (doDaa_eq s rfl) (.retires [] rfl (.packed rfl trivial rfl rfl trivial))
  | h_cpl => exact .of_stores [] rfl rfl (.packed rfl rfl rfl rfl rfl)
  | h_scf => exact .of_stores [] rfl rfl (.packed rfl rfl rfl rfl rfl)
  | h_ccf => exact .of_stores [] rfl rfl (.packed rfl rfl rfl rfl trivial)
  | h_addSpE8 e => exact .of_eq (doAddSp_eq e s) (.retires [] rfl (.packed rfl rfl rfl trivial trivial))
  | h_ldHlSpE8 e => exact .of_eq (doLdHlSp_eq e s) (.retires [] rfl (.packed rfl rfl rfl trivial trivial))
  | h_jrE8 e => exact .of_eq (doJr_eq e s) (.jumps [] rfl (.keep rfl))
  | h_jpN16 nn => exact .of_eq (doJp_eq nn s) (.jumps [] rfl (.keep rfl))
  | h_jpHl => exact .of_eq (doJpHl_eq s) (.jumps [] rfl (.keep rfl))
  | h_callN16 nn => exact .of_eq (doCall_eq nn s) (.jumps [(_, _), (_, _)] rfl (.keep rfl))
  | h_ret => exact .of_eq (doRet_eq s) (.jumps [] rfl (.keep rfl))
  | h_reti => exact runs_doReti s
  | h_stop n => exact runs_doStop s
  | h_halt => exact runs_doHalt s
  | h_di => exact runs_doSetIme s false
  | h_ei => exact runs_doSetIme s true

section Ran

variable {i : Instr} {s t : State}

/-- A complete instruction is not the 0xCB row (30_encoding.md R217). -/
theorem ne_prefixCb_of_wf (hwf : i.wf = true) (cb : Byte) : i ≠ .prefixCb cb := by
  rintro rfl
  cases hwf

theorem ran_of_exec (complete : ∀ cb, i ≠ .prefixCb cb) (h : exec i s = .next t) : Ran i.row (storesOf i s) s t := by
  obtain ⟨u, hu, ran⟩ := exec_runs i s complete
  rwa [Host.Outcome.next.inj (h.symm.trans hu)]

theorem answers_of_exec (h : exec i s = .next t) : Answers i s t := by
  obtain ⟨u, hu, answers⟩ := exec_answers i s
  rwa [Host.Outcome.next.inj (h.symm.trans hu)]

end Ran

/-- Settles O37: the price of a run without a fault, the parameter being the table's. -/
theorem costsFollowTable : Obligations.CostsFollowTable := by
  intro i s t hwf _ source run noFault
  rcases (ran_of_exec (ne_prefixCb_of_wf hwf) run).price with ⟨-, cost, cycles, ⟨least, most⟩, price⟩ | ⟨fault, -⟩
  · refine ⟨cost, cycles, least, most, ?_⟩
    rcases price with full | notTaken | choice
    · exact .inl full
    · exact .inr notTaken
    · exact absurd source choice
  · exact absurd noFault fault

/-- Settles O38: the flags of a run. -/
theorem flagsFollowTable : Obligations.FlagsFollowTable := by
  intro i s t hwf run
  obtain ⟨z, n, h, c, low⟩ := (ran_of_exec (ne_prefixCb_of_wf hwf) run).flags
  exact ⟨z, n, h, c, low⟩

/-! ## Reads that a write does not affect (20_memory.md) -/

/-- The address of each register of the I/O block (10_state.md R46, R48, R49); the plain bytes have no one address. -/
def IoReg.address : IoReg → Nat
  | .p1 => 0xFF00
  | .iflag => 0xFF0F
  | .lcdc => 0xFF40
  | .stat => 0xFF41
  | .scy => 0xFF42
  | .scx => 0xFF43
  | .ly => 0xFF44
  | .lyc => 0xFF45
  | .bgp => 0xFF47
  | .obp0 => 0xFF48
  | .obp1 => 0xFF49
  | .wy => 0xFF4A
  | .wx => 0xFF4B
  | .plain => 0

theorem eq_address_of_ioRegOf {n : Nat} : ioRegOf n ≠ .plain → n = (ioRegOf n).address := by
  fun_cases ioRegOf n
  case case14 => exact fun register => absurd rfl register
  all_goals exact fun _ => by assumption

/-- Two different addresses name two different registers, or one of them names none. -/
theorem ioRegOf_ne {n m : Nat} (distinct : n ≠ m) (register : ioRegOf n ≠ .plain) : ioRegOf m ≠ ioRegOf n := fun same =>
  distinct ((eq_address_of_ioRegOf register).trans (same ▸ (eq_address_of_ioRegOf (same ▸ register)).symm))

/-- An address of the ROM window lies below 0x8000. -/
theorem regionOf_rom {n : Nat} : regionOf n = .romLow ∨ regionOf n = .romHigh → n < 0x8000 := by
  fun_cases regionOf n <;> simp <;> omega

/-- IE is the last address. -/
theorem regionOf_ie {n : Nat} : regionOf n = .ie → 0xFFFF ≤ n := by
  fun_cases regionOf n
  case case11 => exact fun _ => by omega
  all_goals exact nofun

section Frame

variable {s : State} {a b : Word} {v : Byte}

/-- A store to a byte that `b` does not name is not seen at `b`. -/
theorem State.readByte_store {n : Nat} (other : storageOf b ≠ n) : (s.store n v).readByte b = s.readByte b := by
  have elsewhere : (s.mem.write n v).read (storageOf b) = s.mem.read (storageOf b) := Memory.read_write_other _ v other
  unfold storageOf at elsewhere
  cases region : regionOf b.toNat
  case io =>
    rw [region, if_neg nofun] at elsewhere
    rw [State.readByte_io region, State.readByte_io region, State.ioRead, State.ioRead]
    cases ioRegOf b.toNat
    case plain => exact elsewhere
    all_goals rfl
  case eram =>
    rw [region, if_neg nofun] at elsewhere
    simp only [State.readByte, region, State.store_mem, elsewhere]
    rfl
  all_goals
    simp only [region, reduceCtorEq, if_true, if_false] at elsewhere
    simp only [State.readByte, region, State.store_mem, elsewhere]
    try rfl

/-- A control write is seen in the ROM window and at external RAM alone (20_memory.md R105 to R113). -/
theorem State.readByte_romControl {n : Nat} (outside : ¬ (b.toNat < 0x8000 ∨ regionOf b.toNat = .eram)) :
    (s.romControl n v).readByte b = s.readByte b := by
  obtain ⟨notRom, notEram⟩ := not_or.1 outside
  rw [State.romControl_shape]
  cases region : regionOf b.toNat
  case romLow | romHigh => exact absurd (regionOf_rom (by simp [region])) notRom
  case eram => exact absurd region notEram
  case io => rw [State.readByte_io region, State.readByte_io region]; rfl
  all_goals simp only [State.readByte, region]

/-- Outside the I/O block no read looks at the registers there. -/
theorem State.readByte_of_not_io (notIo : regionOf b.toNat ≠ .io) (p1 : Byte) (iflag : BitVec 5) (lcd : Lcd) :
    State.readByte { s with p1 := p1, iflag := iflag, lcd := lcd } b = s.readByte b := by
  cases region : regionOf b.toNat
  case io => exact absurd region notIo
  case eram => simp only [State.readByte, region]; rfl
  all_goals simp only [State.readByte, region]

/-- A register of the I/O block is seen at its own address, and LYC in STAT too (20_memory.md R128). -/
theorem State.ioRead_ioWrite {n m : Nat} (register : ioRegOf n ≠ .plain) (other : ioRegOf m ≠ ioRegOf n)
    (lyc : ¬ (ioRegOf n = .lyc ∧ ioRegOf m = .stat)) : (s.ioWrite n v).ioRead m = s.ioRead m := by
  unfold State.ioWrite State.ioRead
  generalize ioRegOf n = written at *
  generalize ioRegOf m = read at *
  cases written
  case plain => exact absurd rfl register
  case lyc =>
    cases read
    case lyc => exact absurd rfl other
    case stat => exact absurd ⟨rfl, rfl⟩ lyc
    all_goals rfl
  all_goals cases read <;> simp [State.statByte] at other ⊢

theorem State.readByte_ioWrite (io : regionOf a.toNat = .io) (other : storageOf b ≠ storageOf a) (lyc : ¬ (a = 0xFF45 ∧ b = 0xFF41)) :
    (s.ioWrite a.toNat v).readByte b = s.readByte b := by
  have ownAddress {c : Word} (h : regionOf c.toNat = .io) : storageOf c = c.toNat := by rw [storageOf, h, if_neg nofun]
  by_cases plain : ioRegOf a.toNat = .plain
  · rw [State.ioWrite, plain]
    exact State.readByte_store (ownAddress io ▸ other)
  have register := eq_address_of_ioRegOf plain
  by_cases ioB : regionOf b.toNat = .io
  · rw [ownAddress io, ownAddress ioB] at other
    rw [State.readByte_io ioB, State.readByte_io ioB]
    refine State.ioRead_ioWrite plain (ioRegOf_ne (Ne.symm other) plain) fun ⟨isLyc, isStat⟩ => lyc ⟨?_, ?_⟩
    · exact BitVec.eq_of_toNat_eq (by rw [register, isLyc]; rfl)
    · have statRegister := eq_address_of_ioRegOf (n := b.toNat) (by simp [isStat])
      exact BitVec.eq_of_toNat_eq (by rw [statRegister, isStat]; rfl)
  · have mem : (s.ioWrite a.toNat v).mem = s.mem := by
      unfold State.ioWrite
      cases named : ioRegOf a.toNat
      case plain => exact absurd named plain
      all_goals rfl
    rw [State.ioWrite_shape, mem]
    exact State.readByte_of_not_io ioB _ _ _

/-- IE is seen at its own address. -/
theorem State.readByte_setIe (notIe : regionOf b.toNat ≠ .ie) : State.readByte { s with ie := v } b = s.readByte b := by
  cases region : regionOf b.toNat
  case ie => exact absurd region notIe
  case io => rw [State.readByte_io region, State.readByte_io region]; rfl
  case eram => simp only [State.readByte, region]; rfl
  all_goals simp only [State.readByte, region]

/-- A write is not seen where it may not affect a read. -/
theorem State.readByte_writeByte (apart : ¬ mayAffect a b) : (s.writeByte a v).readByte b = s.readByte b := by
  obtain ⟨other, window, lyc⟩ : ¬ storageOf a = storageOf b ∧
      ¬ (a.toNat < 0x8000 ∧ (b.toNat < 0x8000 ∨ regionOf b.toNat = .eram)) ∧ ¬ (a = 0xFF45 ∧ b = 0xFF41) := by
    simpa only [mayAffect, not_or] using apart
  have stored : storageOf b ≠ if regionOf a.toNat = .echo then a.toNat - 0x2000 else a.toNat := Ne.symm other
  cases region : regionOf a.toNat
  case romLow | romHigh =>
    have rom : regionOf a.toNat = .romLow ∨ regionOf a.toNat = .romHigh := by simp [region]
    rw [(State.access_of_rom rom).2]
    exact State.readByte_romControl fun h => window ⟨regionOf_rom rom, h⟩
  case io => rw [State.writeByte_io region]; exact State.readByte_ioWrite region (Ne.symm other) lyc
  case eram =>
    rw [region, if_neg nofun] at stored
    cases gate : s.eramOpen with
    | true => rw [(State.access_of_eramOpen region gate).2]; exact State.readByte_store stored
    | false => rw [(State.access_of_eramClosed region gate).2]
  case unusable => rw [(State.access_of_unusable region).2]
  case ie =>
    rw [region, if_neg nofun] at stored
    have last := regionOf_ie region
    have notIe : regionOf b.toNat ≠ .ie := fun ieB => stored (by
      rw [storageOf, ieB, if_neg nofun]
      have := regionOf_ie ieB
      omega)
    have write : s.writeByte a v = { s with ie := v } := by simp only [State.writeByte, region]
    rw [write, State.readByte_setIe notIe]
  case echo =>
    rw [region, if_pos rfl] at stored
    rw [(State.access_of_echo region).2]
    exact State.readByte_store stored
  case vram | wram | oam | hram =>
    rw [region, if_neg nofun] at stored
    rw [(State.access_of_storage (by simp [region])).2]
    exact State.readByte_store stored

theorem State.readByte_storeAll (stores : List (Word × Byte)) (apart : ∀ a ∈ stores.map Prod.fst, ¬ mayAffect a b) :
    (s.storeAll stores).readByte b = s.readByte b := by
  induction stores generalizing s with
  | nil => rfl
  | cons store stores ih =>
    obtain ⟨first, later⟩ := List.forall_mem_cons.1 apart
    exact (ih later).trans (State.readByte_writeByte first)

end Frame

/-- Whether an operand of the 0xCB map is the byte at HL (46_cb_prefix.md R601). -/
theorem storeAddresses_ofCode (s : State) (z : BitVec 3) :
    Operand8.storeAddresses s (Operand8.ofCode z) = if z = 6 then [s.regs.hl] else [] := by
  rcases (show z = 0 ∨ z = 1 ∨ z = 2 ∨ z = 3 ∨ z = 4 ∨ z = 5 ∨ z = 6 ∨ z = 7 by decide +revert) with
    rfl | rfl | rfl | rfl | rfl | rfl | rfl | rfl <;> rfl

/-- The 0xCB row stores where the row of its second byte does. -/
theorem storesOf_prefixCb (cb : Byte) (s : State) : storesOf (.prefixCb cb) s = storesOf (secondary cb) s := by
  rw [secondary_eq]
  change (if cb.extractLsb' 0 3 = 6 ∧ cb.extractLsb' 6 2 ≠ 1 then [s.regs.hl] else []) = _
  rcases field_x_cases (cb.extractLsb' 6 2) with x | x | x | x <;>
    simp [x, storesOf_shift, storesOf_bit, storesOf_res, storesOf_set, storeAddresses_ofCode]

/-- The stores are all that a read can see of a run (20_memory.md). -/
theorem StoresAt.readByte {addresses : List Word} {s t : State} {b : Word} (stored : StoresAt addresses s t)
    (apart : ∀ a ∈ addresses, ¬ mayAffect a b) : t.readByte b = s.readByte b := by
  obtain ⟨stores, rfl, shape⟩ := stored
  rw [shape]
  exact State.readByte_storeAll stores apart

/-- Settles O39: a read past the stores is as before; the 0xCB row is the row of its second byte. -/
theorem memoryFrame : Obligations.MemoryFrame := by
  intro i s t b run apart
  by_cases isPrefix : ∃ cb, i = .prefixCb cb
  · obtain ⟨cb, rfl⟩ := isPrefix
    rw [exec_prefixCb] at run
    rw [storesOf_prefixCb] at apart
    exact (ran_of_exec (ne_prefixCb_of_wf (secondary_hasBytes cb).1) run).stores.readByte apart
  · exact (ran_of_exec (not_exists.1 isPrefix) run).stores.readByte apart

end Sys2Proof.Machine
end

section
/-! PROOF. O48 and O50: the display over a whole frame (60_exceptions.md R723 to R729). Positions count ticks modulo 70,224; a visible line renders its row
at dot 80 and nothing else on the way to the next line, so 154 lines overwrite the 144 rows in order. -/

namespace Sys2Proof.Machine

/-! ## Positions (R726) -/

theorem State.InFrame.advance {s : State} (range : s.InFrame) (c : Nat) : (State.advance c s).InFrame := by
  induction c generalizing s with
  | zero => exact range
  | succ c ih => exact ih range.tick

theorem State.position_lt {s : State} (range : s.InFrame) : s.position < 70224 := by
  obtain ⟨hly, hdot⟩ := range
  rw [State.position]
  omega

theorem State.position_advance (c : Nat) {s : State} (range : s.InFrame) :
    (State.advance c s).position = (s.position + c) % 70224 := by
  induction c generalizing s with
  | zero => exact (Nat.mod_eq_of_lt (State.position_lt range)).symm
  | succ c ih =>
    rw [State.advance, ih range.tick, State.position_tick range]
    omega

/-- Settles O48: each tick moves the position one on, modulo a frame. -/
theorem frameLength : Obligations.FrameLength := by
  intro c s hly hdot
  have range : s.InFrame := ⟨hly, hdot⟩
  exact ⟨State.position_advance c range, (range.advance c).1, (range.advance c).2⟩

/-! ## One line (R723, R724) -/

section Line

variable {s : State}

/-- Ticks within a line that do not pass dot 80, or lie below the screen, move the dot alone. -/
theorem State.advance_dots (c : Nat) (inside : s.dot + c < 456) (quiet : 80 ≤ s.dot ∨ s.dot + c < 80 ∨ 144 ≤ s.ly) :
    State.advance c s = { s with dot := s.dot + c } := by
  induction c generalizing s with
  | zero => rfl
  | succ c ih =>
    have tick : s.tick = { s with dot := s.dot + 1 } := by
      rw [State.tick_inLine (by omega), if_neg (by omega)]
    rw [State.advance, tick, ih (by show s.dot + 1 + c < 456; omega) (by show 80 ≤ s.dot + 1 ∨ s.dot + 1 + c < 80 ∨ 144 ≤ s.ly; omega)]
    show { s with dot := s.dot + 1 + c } = { s with dot := s.dot + (c + 1) }
    rw [Nat.add_right_comm, Nat.add_assoc]

/-- The row of a line depends on the memory, the registers and the line alone (R729). -/
theorem State.scanline_congr {t : State} (mem : t.mem = s.mem) (lcd : t.lcd = s.lcd) (ly : t.ly = s.ly) : t.scanline = s.scanline := by
  cases s
  cases t
  subst mem lcd ly
  rfl

/-- The last tick of a line (R723). -/
theorem State.advance_lineEnd (c : Nat) (last : s.dot + c = 455) (quiet : 80 ≤ s.dot ∨ 144 ≤ s.ly) :
    (State.advance (c + 1) s).ly = (s.ly + 1) % 154 ∧ (State.advance (c + 1) s).dot = 0 ∧
      (State.advance (c + 1) s).framebuffer = s.framebuffer := by
  have tick := State.tick_lineEnd (s := { s with dot := s.dot + c }) (by show s.dot + c + 1 = 456; omega)
  rw [State.advance_add, State.advance_dots c (by omega) (by omega), State.advance, tick]
  exact ⟨rfl, rfl, rfl⟩

/-- A line overwrites its own row where it is visible, and no other (R724). -/
theorem State.advance_line (start : s.dot = 0) :
    (State.advance 456 s).ly = (s.ly + 1) % 154 ∧ (State.advance 456 s).dot = 0 ∧
      (State.advance 456 s).framebuffer = if s.ly < 144 then s.framebuffer.set s.ly s.scanline else s.framebuffer := by
  by_cases visible : s.ly < 144
  · have render : State.advance 80 s = { s with dot := 80, framebuffer := s.framebuffer.set s.ly s.scanline } := by
      have tick := State.tick_inLine (s := { s with dot := s.dot + 79 }) (by show s.dot + 79 + 1 ≠ 456; omega)
      rw [if_pos ⟨visible, by show s.dot + 79 + 1 = 80; omega⟩] at tick
      rw [State.advance_add 79 1, State.advance_dots 79 (by omega) (by omega), State.advance, tick, start]
      rfl
    rw [State.advance_add 80 376, render, if_pos visible]
    exact State.advance_lineEnd 375 rfl (.inl (Nat.le_refl 80))
  · rw [if_neg visible]
    exact State.advance_lineEnd 455 (by omega) (.inr (Nat.le_of_not_lt visible))

end Line

/-! ## A whole frame (R724, R729) -/

/-- The rows of the framebuffer `old` once the first `k` lines have been rendered, the row of each line given. -/
def rowsRendered (row : Nat → List Shade) (old : List (List Shade)) (k : Nat) : List (List Shade) :=
  (List.range (min k 144)).map row ++ old.drop (min k 144)

/-- The next line's row, if it is visible, is the next one overwritten. -/
theorem rowsRendered_succ (row : Nat → List Shade) {old : List (List Shade)} (shape : old.length = 144) (k : Nat) :
    rowsRendered row old (k + 1) =
      if k < 144 then (rowsRendered row old k).set k (row k) else rowsRendered row old k := by
  split
  next visible =>
    have next : old.drop k = old[k] :: old.drop (k + 1) := List.drop_eq_getElem_cons (by omega)
    rw [rowsRendered, rowsRendered, Nat.min_eq_left (by omega), Nat.min_eq_left (by omega), next, List.range_succ, List.map_append,
      List.set_append_right _ _ (by simp), List.length_map, List.length_range, Nat.sub_self, List.set_cons_zero, List.append_assoc]
    rfl
  next hidden => rw [rowsRendered, rowsRendered, Nat.min_eq_right (by omega), Nat.min_eq_right (by omega)]

/-- From the top of the frame, the state after each line. -/
theorem State.advance_lines {s : State} (top : s.ly = 0) (left : s.dot = 0) (shape : s.framebuffer.length = 144) (k : Nat) (inFrame : k ≤ 154) :
    (State.advance (456 * k) s).ly = k % 154 ∧ (State.advance (456 * k) s).dot = 0 ∧
      (State.advance (456 * k) s).framebuffer = rowsRendered (fun l => State.scanline { s with ly := l }) s.framebuffer k := by
  induction k with
  | zero => exact ⟨top, left, rfl⟩
  | succ k ih =>
    obtain ⟨ly, dot, rows⟩ := ih (by omega)
    obtain ⟨nextLy, nextDot, nextRows⟩ := State.advance_line dot
    have line : (State.advance (456 * k) s).ly = k := by omega
    have row : (State.advance (456 * k) s).scanline = State.scanline { s with ly := k } :=
      State.scanline_congr (State.advance_mem ..) (State.advance_lcd ..) line
    rw [Nat.mul_succ, State.advance_add, rowsRendered_succ _ shape]
    rw [line] at nextLy
    rw [line, row, rows] at nextRows
    exact ⟨nextLy, nextDot, nextRows⟩

/-- Settles O50: after 154 lines each of the 144 rows has been overwritten. -/
theorem wholeFrameRendered : Obligations.WholeFrameRendered := by
  intro s top left shape
  obtain ⟨-, -, rows⟩ := State.advance_lines top left shape 154 (Nat.le_refl 154)
  rw [show 70224 = 456 * 154 from rfl, rows, rowsRendered, Nat.min_eq_right (by decide), List.drop_of_length_le (by omega), List.append_nil]

end Sys2Proof.Machine
end

section
/-! PROOF. O22 and O23: the system instructions and the illegal opcodes (45_system.md, 60_exceptions.md R700 to R702). -/

namespace Sys2Proof.Machine

theorem doNop_eq (s : State) : doNop s = .next (s.retires 1 4 id) := rfl

/-- STOP by the parameter (R554): the fault, or two bytes passed over. -/
theorem doStop_eq (s : State) : doStop s = .next (match s.params.stopMode with
    | .fault => { s with regs := { s.regs with pc := s.regs.pc + 1 }, fault := some (.illegalOpcode 0x10 s.regs.pc) }
    | .nop2 => s.retires 2 4 id) := by
  rw [doStop]
  cases s.params.stopMode <;> rfl

/-- Settles O22: each instruction as one next state. -/
theorem systemInstructions : Obligations.SystemInstructions := by
  intro n s
  exact ⟨⟨rfl, doNop_eq s⟩, ⟨rfl, doHalt_eq s⟩, ⟨rfl, doSetIme_eq false s⟩, ⟨rfl, doSetIme_eq true s⟩, rfl, doStop_eq s⟩

/-- The opcode values without an operation (30_encoding.md R216) are the codes of `IllegalOp`. -/
theorem mem_illegalCodes {op : Byte} :
    op ∈ ([0xD3, 0xDB, 0xDD, 0xE3, 0xE4, 0xEB, 0xEC, 0xED, 0xF4, 0xFC, 0xFD] : List Byte) ↔ ∃ k : IllegalOp, k.code = op := by
  constructor
  · intro h
    obtain ⟨k, -, code⟩ := List.mem_map.1 (show op ∈ List.map IllegalOp.code
      [.opD3, .opDB, .opDD, .opE3, .opE4, .opEB, .opEC, .opED, .opF4, .opFC, .opFD] from h)
    exact ⟨k, code⟩
  · rintro ⟨k, rfl⟩
    cases k <;> decide

/-- Each stands in the primary map at its own byte, and at no other. -/
theorem primary_eq_illegal_iff {op : Byte} {k : IllegalOp} : primary op = .plain (Instr.illegal k) ↔ k.code = op := by
  constructor
  · intro entry
    have encoded := primary_encodedFrom op
    rw [entry] at encoded
    obtain ⟨-, bytes, -⟩ := encoded
    rw [encode_illegal] at bytes
    exact List.head_eq_of_cons_eq bytes
  · rintro rfl
    cases k <;> rfl

/-- Settles O23: the values are those that the map holds; each takes the fault with its own byte. -/
theorem illegalOpcodes : Obligations.IllegalOpcodes := by
  refine ⟨fun op => ?values, fun k s => ⟨encode_illegal k, ?fault⟩⟩
  case values =>
    rw [mem_illegalCodes]
    exact exists_congr fun k => primary_eq_illegal_iff
  case fault => rw [exec_illegal, raiseIllegal_eq]

end Sys2Proof.Machine
end

section
/-! PROOF. O32, O34, O35, O40, O41 and O58: the step (30_encoding.md R212, 45_system.md R552, R553, 60_exceptions.md R702, R750). A step settles the display
after a core step; what the core step keeps of the invariant and what it costs follow from the run of its instruction, and settling keeps the rest. -/

namespace Sys2Proof.Machine

/-! ## What a list of stores keeps -/

theorem State.writeByte_bank_of_direct {s : State} (direct : s.cart.kind = .direct) (a : Word) (v : Byte) :
    (s.writeByte a v).bank = s.bank := by
  have control (n : Nat) : (s.romControl n v).bank = s.bank := by rw [State.romControl, direct]
  unfold State.writeByte
  dsimp only
  generalize regionOf a.toNat = region
  cases region
  case romLow | romHigh => exact control _
  case io => dsimp only; rw [State.ioWrite_shape]
  case eram => dsimp only; split <;> rfl
  all_goals rfl

section Stores

variable {s : State} (stores : List (Word × Byte))

theorem State.storeAll_memOk (h : s.MemOk) : (s.storeAll stores).MemOk :=
  State.storeAll_keeps (motive := State.MemOk) (fun t a v => t.writeByte_memOk a v) h stores

theorem State.storeAll_romBank (h : s.bank.romBank ≠ 0) : (s.storeAll stores).bank.romBank ≠ 0 :=
  State.storeAll_keeps (motive := fun t => t.bank.romBank ≠ 0) (fun t a v => t.writeByte_romBank a v) h stores

theorem State.storeAll_bank_of_direct (direct : s.cart.kind = .direct) : (s.storeAll stores).bank = s.bank := by
  have keeps := State.storeAll_keeps (motive := fun t => t.cart.kind = .direct ∧ t.bank = s.bank)
    (fun t a v ⟨kind, bank⟩ => ⟨by rw [t.writeByte_cart]; exact kind, (State.writeByte_bank_of_direct kind a v).trans bank⟩)
    (⟨direct, rfl⟩ : s.cart.kind = .direct ∧ s.bank = s.bank) stores
  exact keeps.2

end Stores

/-! ## The core step -/

/-- What a core step keeps, and what it costs: 4 to 24 cycles, or none where it faults (60_exceptions.md R702, 70_reset_and_hazards.md R818). -/
structure Stepped (s u : State) : Prop extends SameSurroundings s u where
  low : s.regs.f &&& 0x0F = 0 → u.regs.f &&& 0x0F = 0
  mem : s.MemOk → u.MemOk
  romBank : s.bank.romBank ≠ 0 → u.bank.romBank ≠ 0
  direct : s.cart.kind = .direct → u.bank = s.bank
  cost : ∃ cost, u.cycles = s.cycles + cost ∧ (u.fault = none → 4 ≤ cost ∧ cost ≤ 24) ∧ (u.fault ≠ none → cost = 0)

section CoreStep

variable {s t u : State}

/-- The halted tick (45_system.md R552). -/
theorem stepped_haltedTick (noFault : s.fault = none) : Stepped s s.haltedTick where
  toSameSurroundings := .core s _ _ _ _ _
  low := id
  mem := id
  romBank := id
  direct _ := rfl
  cost := ⟨4, rfl, fun _ => by decide, fun fault => absurd noFault fault⟩

theorem stepped_of_exec {i : Instr} (complete : ∀ cb, i ≠ .prefixCb cb) (noFault : s.fault = none) (run : exec i s = .next u) :
    Stepped s u := by
  obtain ⟨⟨stores, -, shape⟩, flags, price⟩ := ran_of_exec complete run
  have mem : u.mem = (s.storeAll stores).mem := by rw [shape]
  have bank : u.bank = (s.storeAll stores).bank := by rw [shape]
  refine { (answers_of_exec run).toSameSurroundings with low := flags.low, mem := ?_, romBank := ?_, direct := ?_, cost := ?_ }
  · intro h
    rw [State.MemOk, mem]
    exact State.storeAll_memOk stores h
  · rw [bank]
    exact State.storeAll_romBank stores
  · rw [bank]
    exact State.storeAll_bank_of_direct stores
  · rcases price with ⟨fault, cost, cycles, range, -⟩ | ⟨fault, cycles⟩
    · exact ⟨cost, cycles, fun _ => range, fun faulted => absurd (fault.trans noFault) faulted⟩
    · exact ⟨0, cycles, fun noFault => absurd noFault fault, fun _ => rfl⟩

/-- A step is a core step, with the display and the driver settled after it (60_exceptions.md R750). -/
theorem step_settles (h : step s = .next t) : ∃ u, t = settle s u ∧ Stepped s u := by
  obtain ⟨-, noFault, ⟨-, tick⟩ | ⟨-, u, run, settled⟩⟩ := step_cases h
  · exact ⟨s.haltedTick, tick, stepped_haltedTick noFault⟩
  · obtain ⟨-, -, wf⟩ := fetchInstr_decodes s.wake
    have stepped : Stepped s.wake u := stepped_of_exec (ne_prefixCb_of_wf wf) noFault run
    refine ⟨undoWake s u, settled, ?_⟩
    rw [undoWake_shape]
    exact { stepped with }

end CoreStep

/-- Settles O40: neither the core step nor the display touches any of them. -/
theorem stepKeepsCartridge : Obligations.StepKeepsCartridge := by
  intro s t h
  obtain ⟨u, rfl, stepped⟩ := step_settles h
  simp only [settle_cart, settle_params, settle_stop, settle_launch, settle_bank]
  exact ⟨stepped.cart, stepped.params, stepped.stop, stepped.launch, stepped.direct⟩

/-- Settles O41: the cost of the core step, which the driver's total counts too. -/
theorem stepCost : Obligations.StepCost := by
  intro s t h
  obtain ⟨u, rfl, stepped⟩ := step_settles h
  obtain ⟨cost, cycles, completed, faulted⟩ := stepped.cost
  refine ⟨cost, ?_, ?_, ?_⟩
  · rw [settle_cycles, cycles]
  · rw [settle_frameTotal, stepped.frameTotal, cycles, Nat.add_sub_cancel_left]
  · rw [settle_fault]
    exact ⟨completed, faulted⟩

/-! ## The invariant (10_state.md R32, R43, R45, R47, 60_exceptions.md R726, R750) -/

theorem State.FrameOk.tick {s : State} (h : s.FrameOk) : s.tick.FrameOk := by
  obtain ⟨rows, columns⟩ := h
  by_cases last : s.dot + 1 = 456
  · rw [State.tick_lineEnd last]
    exact ⟨rows, columns⟩
  · rw [State.tick_inLine last]
    split
    · refine ⟨by simpa using rows, fun row mem => ?_⟩
      rcases List.mem_or_eq_of_mem_set mem with old | rendered
      · exact columns row old
      · exact rendered ▸ s.scanline_length
    · exact ⟨rows, columns⟩

theorem State.FrameOk.advance {s : State} (h : s.FrameOk) (c : Nat) : (State.advance c s).FrameOk := by
  induction c generalizing s with
  | zero => exact h
  | succ c ih => exact ih h.tick

/-- A core step keeps its part of the invariant; the display moves on by the cost, as the totals do. -/
theorem State.Inv.settle {s u : State} (h : s.Inv) (stepped : Stepped s u) : (settle s u).Inv := by
  obtain ⟨cost, cycles, -, -⟩ := stepped.cost
  have spent : u.cycles - s.cycles = cost := by omega
  have range : u.InFrame := ⟨stepped.ly ▸ h.line, stepped.dot ▸ h.dot⟩
  have position : u.position = s.cycles % 70224 := by rw [← h.phase, State.position, stepped.ly, stepped.dot]
  have frame : u.FrameOk := by rw [State.FrameOk, stepped.framebuffer]; exact h.frame
  constructor
  case flags => rw [settle_regs]; exact stepped.low h.flags
  case mem => rw [State.MemOk, settle_mem]; exact stepped.mem h.mem
  case bank => rw [settle_bank]; exact stepped.romBank h.bank
  case line => exact (range.advance _).1
  case dot => exact (range.advance _).2
  case frame => exact frame.advance _
  case total => rw [settle_frameTotal, settle_cycles, stepped.frameTotal, h.total, spent, cycles]
  case phase =>
    have moved := State.position_advance cost range
    rw [position, Nat.mod_add_mod] at moved
    rw [State.InPhase, settle_ly, settle_dot, settle_cycles, spent, cycles]
    exact moved

/-- Settles O58. -/
theorem stepKeepsInv : Obligations.StepKeepsInv := by
  intro s t h run
  obtain ⟨u, rfl, stepped⟩ := step_settles run
  exact h.settle stepped

/-! ## Running what is fetched, waking and faulting (R212, R553, R702) -/

section Halted

variable {s t : State}

/-- The settled state in full: the display advanced by the cost, and a wake undone where the step faults. -/
theorem settle_undoWake (s t : State) :
    let u := State.advance (t.cycles - s.cycles) t
    settle s (undoWake s t) =
      { u with frameTotal := u.frameTotal + (t.cycles - s.cycles), halted := if t.fault = none then u.halted else s.halted } := by
  intro u
  by_cases fault : t.fault = none
  · rw [undoWake_of_runs s t fault, if_pos fault]
    rfl
  · rw [undoWake_of_faults s t fault, if_neg fault, settle_setHalted]
    rfl

/-- Settles O32: decoding and fetching give the same instruction, which every state completes. -/
theorem stepRunsDecoded : Obligations.StepRunsDecoded := by
  intro s i rest hs hf hi decoded
  obtain ⟨_, fetched, wf⟩ := fetchInstr_decodes s
  obtain ⟨rfl, -⟩ := Prod.mk.inj (Except.ok.inj (fetched.symm.trans decoded))
  obtain ⟨t, run, -⟩ := exec_answers s.fetchInstr s.wake
  have run' : exec s.fetchInstr { s with halted := false } = .next t := run
  refine ⟨wf, ?_⟩
  rw [run', step_of_runs hs hf hi run, settle_undoWake]

/-- Settles O34: awake, the machine runs the same instruction; only where that faults does `halted` tell the two apart. -/
theorem wakeFromHalt : Obligations.WakeFromHalt := by
  intro s halted pending hs hf
  have runs : s.idles = false := by
    rw [← Bool.not_eq_true, s.idles_iff]
    exact fun ⟨_, quiet⟩ => pending quiet
  obtain ⟨t, run, -⟩ := exec_answers s.wake.fetchInstr s.wake
  have asleep := step_of_runs hs hf runs run
  have awake : step s.wake = .next (settle s.wake (undoWake s.wake t)) := step_of_runs hs hf rfl run
  refine ⟨runs, _, awake, ?_⟩
  rw [asleep, settle_fault, undoWake_fault, settle_undoWake, settle_undoWake]
  by_cases fault : t.fault = none
  · simp only [fault, if_true]
    rfl
  · simp only [fault, if_false, halted, State.advance_fault, wake_cycles]

/-- A step that takes the fault changes the pc and the fault alone (R702). -/
theorem step_of_raises {op : Byte} (hs : s.stop = false) (hf : s.fault = none) (hi : s.idles = false)
    (raises : exec s.wake.fetchInstr s.wake = raiseIllegal op s.wake) :
    step s = .next { s with regs := { s.regs with pc := s.regs.pc + 1 }, fault := some (.illegalOpcode op s.regs.pc) } := by
  rw [step_of_runs hs hf hi (raises.trans (raiseIllegal_eq op s.wake)), undoWake_of_faults _ _ (by simp)]
  exact congrArg Host.Outcome.next (settle_of_no_cost s _ rfl)

/-- What is fetched at an illegal opcode, or at STOP where it faults, takes the fault with that byte (R557, R554). -/
theorem exec_fetch_raises {op : Byte} (faults : (∃ k : IllegalOp, k.code = op) ∨ op = 0x10 ∧ s.params.stopMode = .fault)
    (fetched : s.readByte s.regs.pc = op) : exec s.wake.fetchInstr s.wake = raiseIllegal op s.wake := by
  rw [wake_fetchInstr, State.fetchInstr, fetched]
  rcases faults with ⟨k, code⟩ | ⟨rfl, mode⟩
  · rw [primary_eq_illegal_iff.2 code, ← code]
    exact exec_illegal k s.wake
  · show doStop s.wake = _
    rw [doStop, wake_params, mode]

/-- Settles O35: the faulting step, and the two states that no step leaves. -/
theorem faultIsPreciseAndSticky : Obligations.FaultIsPreciseAndSticky := by
  intro s
  refine ⟨fun op faults hs hf hi fetched => ⟨?precise, step_of_faulted hs rfl⟩, fun f hf => ?sticky, step_of_stopped⟩
  case precise => exact step_of_raises hs hf hi (exec_fetch_raises (faults.imp_left mem_illegalCodes.1) fetched)
  case sticky =>
    cases hs : s.stop with
    | true => exact step_of_stopped hs
    | false => exact step_of_faulted hs hf

end Halted

end Sys2Proof.Machine
end

section
/-! PROOF. O7: PUSH, then POP (40_load.md R322 to R326). In WRAM the two bytes pushed read back, so the word popped is the word pushed. -/

namespace Sys2Proof.Machine

section Stack

variable {s : State}

/-- Two different addresses of WRAM do not affect each other. -/
theorem not_mayAffect_wram {a b : Word} (distinct : a ≠ b) (ha : regionOf a.toNat = .wram) (hb : regionOf b.toNat = .wram)
    (loA : 0xC000 ≤ a.toNat) (hiA : a.toNat < 0xE000) : ¬ mayAffect a b := by
  have storage {c : Word} (hc : regionOf c.toNat = .wram) : storageOf c = c.toNat := by rw [storageOf, hc, if_neg nofun]
  rw [mayAffect, storage ha, storage hb]
  rintro (same | ⟨rom, -⟩ | ⟨rfl, -⟩)
  · exact distinct (BitVec.eq_of_toNat_eq same)
  · omega
  · exact absurd hiA (by decide)

theorem State.readByte_writeByte_wram {a : Word} {v : Byte} (ha : regionOf a.toNat = .wram) : (s.writeByte a v).readByte a = v :=
  (State.writeByte_stores (State.access_of_storage (.inr (.inl ha))).2 (State.access_of_storage (v := v) (.inr (.inl ha))).1).1

/-- "After `Push16`, `MemRead(SP, 2) = v`" (R322), where both bytes lie in WRAM. -/
theorem State.pushed_reads (v : Word) (lo : 0xC002 ≤ s.regs.sp.toNat) (hi : s.regs.sp.toNat ≤ 0xE000) :
    word ((s.pushed v).readByte (s.regs.sp - 1)) ((s.pushed v).readByte (s.regs.sp - 2)) = v := by
  have upper : (s.regs.sp - 1).toNat = s.regs.sp.toNat - 1 := by bv_omega
  have lower : (s.regs.sp - 2).toNat = s.regs.sp.toNat - 2 := by bv_omega
  have upperWram : regionOf (s.regs.sp - 1).toNat = .wram :=
    regionOf_eq .wram (by simp only [Region.bounds]; omega) (by simp only [Region.bounds]; omega)
  have lowerWram : regionOf (s.regs.sp - 2).toNat = .wram :=
    regionOf_eq .wram (by simp only [Region.bounds]; omega) (by simp only [Region.bounds]; omega)
  have apart : ¬ mayAffect (s.regs.sp - 2) (s.regs.sp - 1) :=
    not_mayAffect_wram (by bv_omega) lowerWram upperWram (by omega) (by omega)
  rw [State.pushed, State.readByte_writeByte apart, State.readByte_writeByte_wram upperWram, State.readByte_writeByte_wram lowerWram]
  exact word_hiByte_loByte v

/-- A pair written with the word it holds is as it was, F by its zero low nibble (10_state.md R32). -/
theorem Regs.setStackPair_stackPair (g : Regs) (q : StackPair) (low : g.f &&& 0x0F = 0) : g.setStackPair q (g.stackPair q) = g := by
  have masked : g.f &&& 0xF0 &&& 0xF0 = g.f := by
    generalize g.f = f at low ⊢
    decide +revert
  cases q <;>
    simp only [Regs.setStackPair, Regs.stackPair, Regs.setHl, Regs.bc, Regs.de, Regs.hl, Regs.af, hiByte_word, loByte_word, masked]

/-- A pair of `rp2` is neither SP nor the pc. -/
theorem Regs.setStackPair_core (g : Regs) (q : StackPair) (v sp pc : Word) :
    Regs.setStackPair { g with sp := sp, pc := pc } q v = { g.setStackPair q v with sp := sp, pc := pc } := by
  cases q <;> rfl

end Stack

/-- Settles O7: the word popped is the word pushed, and SP is back. -/
theorem pushThenPop : Obligations.PushThenPop := by
  intro q s t u low lo hi push pop
  rw [exec_push, doPush_eq] at push
  rw [exec_pop, doPop_eq] at pop
  obtain rfl := Host.Outcome.next.inj push
  obtain rfl := Host.Outcome.next.inj pop
  generalize pushed : (s.pushed (s.regs.stackPair q)).retires 1 16 (fun g => { g with sp := s.regs.sp - 2 }) = t
  have regs : t.regs = { s.regs with sp := s.regs.sp - 2, pc := s.regs.pc + 1 } := by
    rw [← pushed, State.retires, State.pushed_regs]
    rfl
  have value : t.popValue = s.regs.stackPair q := by
    have next : s.regs.sp - 2 + 1 = s.regs.sp - 1 := by bv_omega
    rw [State.popValue, regs, next, ← pushed]
    exact State.pushed_reads _ lo hi
  have restored : Regs.setStackPair { s.regs with sp := s.regs.sp - 2, pc := s.regs.pc + 1 } q (s.regs.stackPair q) =
      { s.regs with sp := s.regs.sp - 2, pc := s.regs.pc + 1 } := by
    rw [Regs.setStackPair_core, Regs.setStackPair_stackPair s.regs q low]
  have sp : s.regs.sp - 2 + 2 = s.regs.sp := by bv_omega
  have pc : s.regs.pc + 1 + 1 = s.regs.pc + 2 := by bv_omega
  show { t.regs.setStackPair q t.popValue with sp := t.regs.sp + 2, pc := t.regs.pc + 1 } = _
  rw [value, regs, restored]
  show { s.regs with sp := s.regs.sp - 2 + 2, pc := s.regs.pc + 1 + 1 } = _
  rw [sp, pc]

end Sys2Proof.Machine
end

section
/-! PROOF. O28: SWAP twice (46_cb_prefix.md R610). -/

namespace Sys2Proof.Machine

/-- SWAP of a register: the nibbles exchanged, and the flags of the result. -/
theorem swap_reg {r : Reg8} {s t : State} (run : exec (Instr.shift .swap (.reg r)) s = .next t) :
    t.regs.get r = (s.regs.get r).rotateLeft 4 ∧ t.regs.f = packFlags (t.regs.get r = 0) false false false := by
  rw [exec_shift, doShift_eq, shift8_swap] at run
  obtain rfl := Host.Outcome.next.inj run
  cases r <;> exact ⟨rfl, rfl⟩

/-- Settles O28: exchanging the nibbles twice gives the byte back. -/
theorem swapTwice : Obligations.SwapTwice := by
  intro r s t u first second
  obtain ⟨once, -⟩ := swap_reg first
  obtain ⟨twice, flags⟩ := swap_reg second
  have back : u.regs.get r = s.regs.get r := by
    rw [twice, once]
    generalize s.regs.get r = v
    decide +revert
  exact ⟨back, back ▸ flags⟩

end Sys2Proof.Machine
end

section
/-! PROOF. O59 and O60: power-on (70_reset_and_hazards.md R800 to R807). The draw is kept in the RAM regions alone, so those read it back and the plain I/O
bytes read zero; all else stands in the definition. -/

namespace Sys2Proof.Machine

/-- A list of cells kept at the addresses of `p` alone. -/
theorem Memory.read_filter (p : Nat → Bool) (m : Memory) (a : Nat) :
    Memory.read (m.filter fun cell => p cell.1) a = if p a then m.read a else 0 := by
  induction m with
  | nil => simp [Memory.read]
  | cons cell rest ih =>
    obtain ⟨b, v⟩ := cell
    rw [List.filter_cons]
    by_cases same : a = b
    · subst same
      cases kept : p a <;> simp [kept, Memory.read, ih]
    · cases kept : p b <;> simp [Memory.read, same, ih]

theorem ramAddress_iff {n : Nat} :
    ramAddress n = true ↔ 0x8000 ≤ n ∧ n < 0xE000 ∨ 0xFE00 ≤ n ∧ n < 0xFEA0 ∨ 0xFF80 ≤ n ∧ n < 0xFFFF := by
  simp only [ramAddress, Bool.or_eq_true, Bool.and_eq_true, decide_eq_true_eq, or_assoc]

section PowerOn

variable (params : Config.Params) (ramInit : Memory)

/-- The RAM regions hold the draw (R805). -/
theorem State.powerOn_mem_read {n : Nat} (ram : ramAddress n = true) : (State.powerOn params ramInit).mem.read n = ramInit.read n :=
  (Memory.read_filter ramAddress ramInit n).trans (if_pos ram)

/-- Every other byte of the list is zero (R803). -/
theorem State.powerOn_mem_read_zero {n : Nat} (other : ramAddress n = false) : (State.powerOn params ramInit).mem.read n = 0 :=
  (Memory.read_filter ramAddress ramInit n).trans (if_neg (by simp [other]))

theorem State.powerOn_memOk (canonical : ramInit.wf = true) : (State.powerOn params ramInit).MemOk := by
  refine ⟨Memory.wf_filter _ canonical, fun cell kept => ?_⟩
  have ram : ramAddress cell.1 = true := (List.mem_filter.1 kept).2
  rw [storageAddress, ram, Bool.true_or]

theorem State.powerOn_frameOk : (State.powerOn params ramInit).FrameOk :=
  ⟨List.length_replicate, fun row mem => by rw [List.eq_of_mem_replicate mem]; exact List.length_replicate⟩

theorem State.powerOn_inv (canonical : ramInit.wf = true) : (State.powerOn params ramInit).Inv where
  flags := (by decide : (0xB0 : Byte) &&& 0x0F = 0)
  mem := State.powerOn_memOk params ramInit canonical
  bank := (by decide : (1 : BitVec 5) ≠ 0)
  line := Nat.zero_lt_succ _
  dot := Nat.zero_lt_succ _
  frame := State.powerOn_frameOk params ramInit
  total := rfl
  phase := rfl

end PowerOn

/-- Settles O59: reset is the power-on state of the defaults; under Direct external RAM is open. -/
theorem resetInv : Obligations.ResetInv := by
  refine ⟨fun params ramInit canonical => ⟨State.powerOn_inv params ramInit canonical, rfl, rfl, rfl, fun a lo hi => ?eram, rfl⟩, rfl,
    State.powerOn_inv _ [] rfl⟩
  case eram =>
    rw [(State.access_of_eramOpen (v := 0) (regionOf_eq .eram lo hi) rfl).1]
    exact State.powerOn_mem_read params ramInit (ramAddress_iff.2 (.inl ⟨by omega, by omega⟩))

/-- Settles O60: the registers as they stand, the plain bytes and the RAM regions by the draw's filter, the ROM window by the empty image. -/
theorem resetValues : Obligations.ResetValues := by
  intro params ramInit s
  refine ⟨rfl, ⟨rfl, rfl, rfl, rfl, rfl, rfl⟩, ⟨rfl, ?interrupts, rfl, ?stat, rfl, rfl, rfl, rfl, rfl, rfl, rfl, rfl, rfl, rfl⟩,
    fun a lo hi notIf notLcd => ?plain, ⟨rfl, rfl⟩, fun n ram => State.powerOn_mem_read params ramInit (ramAddress_iff.2 ram),
    fun a range => ?ram, rfl, fun a hi => ?rom⟩
  case interrupts => exact (by decide : 0b111#3 ++ (0x01 : BitVec 5) = 0xE1)
  case stat => exact (by decide : (1#1 ++ 0#4) ++ (BitVec.ofBool (BitVec.ofNat 8 0 = 0x00) ++ PpuMode.oamSearch.number) = 0x86)
  case plain =>
    have plain : ioRegOf a.toNat = .plain := by
      refine ioRegOf_eq_plain lo (fun h => notIf (BitVec.eq_of_toNat_eq h)) ?_
      rcases notLcd with below | rfl | above
      · exact .inl below
      · exact .inr (.inl rfl)
      · exact .inr (.inr above)
    rw [(State.access_of_plain (v := 0) (regionOf_eq .io (by simp only [Region.bounds]; omega) hi) plain).1]
    refine State.powerOn_mem_read_zero params ramInit (Bool.eq_false_iff.2 fun ram => ?_)
    have := ramAddress_iff.1 ram
    omega
  case ram =>
    have region : regionOf a.toNat = .vram ∨ regionOf a.toNat = .wram ∨ regionOf a.toNat = .oam ∨ regionOf a.toNat = .hram := by
      rcases range with ⟨lo, hi⟩ | ⟨lo, hi⟩ | ⟨lo, hi⟩ | ⟨lo, hi⟩
      · exact .inl (regionOf_eq .vram lo hi)
      · exact .inr (.inl (regionOf_eq .wram lo hi))
      · exact .inr (.inr (.inl (regionOf_eq .oam lo hi)))
      · exact .inr (.inr (.inr (regionOf_eq .hram lo hi)))
    rw [(State.access_of_storage (v := 0) region).1]
    exact State.powerOn_mem_read params ramInit (ramAddress_iff.2 (by omega))
  case rom =>
    have region : regionOf a.toNat = .romLow ∨ regionOf a.toNat = .romHigh := by
      rcases Nat.lt_or_ge a.toNat 0x4000 with low | high
      · exact .inl (regionOf_eq .romLow (Nat.zero_le _) low)
      · exact .inr (regionOf_eq .romHigh high hi)
    rw [(State.access_of_rom (v := 0) region).1]
    rfl

end Sys2Proof.Machine
end

section
/-! PROOF. O56: loading a game and a save (20_memory.md R143 to R145, 60_exceptions.md R756). Bytes written one after another read back in their places and
nowhere else; the image and external RAM are both such a row of bytes. -/

namespace Sys2Proof.Machine

/-! ## Bytes written in a row -/

section WriteBytes

variable {m : Memory} {a n : Nat} {bytes : List Byte}

theorem Memory.read_writeBytes_outside (outside : n < a ∨ a + bytes.length ≤ n) : (m.writeBytes a bytes).read n = m.read n := by
  induction bytes generalizing m a with
  | nil => rfl
  | cons v rest ih =>
    rw [List.length_cons] at outside
    rw [Memory.writeBytes, ih (by omega), Memory.read_write_other m v (by omega)]

theorem Memory.read_writeBytes (i : Nat) (inside : i < bytes.length) : (m.writeBytes a bytes).read (a + i) = bytes[i] := by
  induction bytes generalizing m a i with
  | nil => exact absurd inside (Nat.not_lt_zero i)
  | cons v rest ih =>
    rw [Memory.writeBytes]
    cases i with
    | zero =>
      rw [Memory.read_writeBytes_outside (by omega)]
      exact Memory.read_write_same m a v
    | succ i =>
      have later := ih (m := m.write a v) (a := a + 1) i (Nat.lt_of_succ_lt_succ inside)
      rwa [Nat.add_right_comm] at later

/-- The cells after a row of writes: those of before, and those written. -/
theorem Memory.mem_writeBytes {cell : Host.Cell} (mem : cell ∈ m.writeBytes a bytes) :
    cell ∈ m ∨ a ≤ cell.1 ∧ cell.1 < a + bytes.length := by
  induction bytes generalizing m a with
  | nil => exact .inl mem
  | cons v rest ih =>
    rw [List.length_cons]
    rcases ih mem with before | written
    · rcases Memory.mem_write before with rfl | before
      · exact .inr ⟨Nat.le_refl a, by dsimp only; omega⟩
      · exact .inl before
    · exact .inr (by omega)

end WriteBytes

/-! ## The save (R144, R145) -/

section Save

variable {s : State} {bytes : List Byte}

theorem saveAccepted_iff : saveAccepted bytes = true ↔ bytes.length = 0x2000 := decide_eq_true_iff

theorem State.applySave_of_accepted (size : bytes.length = 0x2000) :
    s.applySave bytes = { s with mem := s.mem.writeBytes 0xA000 bytes } := if_pos (saveAccepted_iff.2 size)

theorem State.applySave_of_refused (size : bytes.length ≠ 0x2000) : s.applySave bytes = s := if_neg (mt saveAccepted_iff.1 size)

/-- A save changes the memory at most. -/
theorem State.applySave_shape (s : State) (bytes : List Byte) : s.applySave bytes = { s with mem := (s.applySave bytes).mem } := by
  unfold State.applySave
  split <;> rfl

/-- What a save leaves behind: the bytes it loaded and all others as before, or nothing changed. -/
theorem State.applySave_loads (s : State) (bytes : List Byte) :
    if bytes.length = 0x2000 then
      (s.applySave bytes).storeSave = bytes ∧ ∀ n, n < 0xA000 ∨ 0xC000 ≤ n → (s.applySave bytes).mem.read n = s.mem.read n
    else s.applySave bytes = s := by
  split
  next size =>
    rw [State.applySave_of_accepted size]
    refine ⟨List.ext_getElem (by simp [State.storeSave, Config.eramSize, size]) fun i _ inside => ?_,
      fun n outside => Memory.read_writeBytes_outside (by omega)⟩
    simpa [State.storeSave] using Memory.read_writeBytes (m := s.mem) (a := 0xA000) i inside
  next size => exact State.applySave_of_refused size

end Save

/-! ## The image (R117, R143) -/

section Image

variable (data : List Byte)

/-- Byte `i` of the image installed is byte `i` of the data. -/
theorem State.installImage_read (s : State) (i : Nat) (inside : i < data.length) :
    (s.installImage data.length (Memory.writeBytes [] 0 data)).cart.cells.read i = data[i] := by
  have kept := Memory.read_filter (fun a => decide (a < data.length)) (Memory.writeBytes [] 0 data) i
  rw [if_pos (decide_eq_true inside)] at kept
  have written := Memory.read_writeBytes (m := []) (a := 0) i inside
  rw [Nat.zero_add] at written
  exact kept.trans written

/-- The kind is MBC1 by the header byte of the data, where the image has one. -/
theorem cartKindOf_eq_mbc1_iff : cartKindOf data.length (Memory.writeBytes [] 0 data) = .mbc1 ↔
    ∃ h : 0x0147 < data.length, data[0x0147] ∈ ([0x01, 0x02, 0x03] : List Byte) := by
  have header (inside : 0x0147 < data.length) : (Memory.writeBytes [] 0 data).read 0x0147 = data[0x0147] := by
    have written := Memory.read_writeBytes (m := []) (a := 0) 0x0147 inside
    rwa [Nat.zero_add] at written
  by_cases inside : 0x0147 < data.length
  · simp only [cartKindOf, inside, header inside, true_and, ite_eq_left_iff, reduceCtorEq, imp_false, not_not, exists_true_left]
    simp
  · simp [cartKindOf, inside]

end Image

/-! ## When the two are accepted (R756) -/

section Accepted

variable {s : State}

theorem State.running_of_launched (h : s.launch = .running) : s.running = true := by simp [State.running, h]

theorem State.not_running (launch : s.launch ≠ .running) (cycles : s.cycles = 0) (fault : s.fault = none) : s.running = false := by
  simp [State.running, launch, cycles, fault]

/-- What `loadGame` installs before it looks at the save. -/
def State.gameInstalled (s : State) (data : List Byte) : State :=
  { s.installImage data.length (Memory.writeBytes [] 0 data) with launch := .loaded }

/-- The save offered with a game, if any. -/
def State.offered (s : State) : Option (List Byte) → State
  | none => s
  | some bytes => s.applySave bytes

theorem loadGame_of_running (h : s.running = true) (data : List Byte) (save : Option (List Byte)) :
    loadGame data save s = .refused .loadWhileRunning := by
  rw [loadGame, if_pos h]

theorem loadGame_of_not_running (h : s.running = false) (data : List Byte) (save : Option (List Byte)) :
    loadGame data save s = .next ((s.gameInstalled data).offered save) := by
  rw [loadGame, if_neg (by simp [h])]
  cases save <;> rfl

theorem loadSave_of_running (h : s.running = true) (bytes : List Byte) : loadSave bytes s = .refused .loadWhileRunning := by
  rw [loadSave, if_pos h]

theorem loadSave_of_not_running (h : s.running = false) (bytes : List Byte) :
    loadSave bytes s = if s.launch = .loaded then .next (s.applySave bytes) else .refused .saveBeforeLoad := by
  rw [loadSave, if_neg (by simp [h])]

end Accepted

/-- An offered save changes the memory at most. -/
theorem State.offered_shape (s : State) (save : Option (List Byte)) : s.offered save = { s with mem := (s.offered save).mem } := by
  cases save with
  | none => rfl
  | some bytes => exact s.applySave_shape bytes

/-- Settles O56: the four places of R756; the image, the kind and the save are rows of bytes read back. -/
theorem Settled.loadGame : Obligations.LoadGame := by
  intro data save s
  refine ⟨fun launch => ?running, fun launch cycles fault bytes => ?tooEarly, fun launch cycles fault bytes => ?saved,
    fun launch cycles fault => ?loaded⟩
  case running =>
    have running := State.running_of_launched launch
    exact ⟨loadGame_of_running running data save, fun bytes => loadSave_of_running running bytes⟩
  case tooEarly => rw [loadSave_of_not_running (State.not_running (by simp [launch]) cycles fault), launch, if_neg nofun]
  case saved =>
    refine ⟨s.applySave bytes, ?_, ?_, s.applySave_loads bytes⟩
    · rw [loadSave_of_not_running (State.not_running (by simp [launch]) cycles fault), if_pos launch]
    · rw [State.applySave_shape]
  case loaded =>
    have shape := (s.gameInstalled data).offered_shape save
    refine ⟨_, loadGame_of_not_running (State.not_running launch cycles fault) data save, ?_⟩
    generalize loaded : (s.gameInstalled data).offered save = t at shape
    have cart : t.cart = (s.gameInstalled data).cart := by rw [shape]
    rw [cart]
    refine ⟨by rw [shape]; rfl, rfl, State.installImage_read data s, cartKindOf_eq_mbc1_iff data, by rw [shape]; rfl, by rw [shape]; rfl, ?_⟩
    cases save with
    | none => rw [← loaded]; rfl
    | some bytes =>
      have loads := (s.gameInstalled data).applySave_loads bytes
      subst loaded
      dsimp only [State.offered]
      split
      next size => rwa [if_pos size] at loads
      next size => rw [if_neg size] at loads; rw [loads]; rfl

end Sys2Proof.Machine
end

section
/-! PROOF. O55 and O57: the driver's loop under the host's moves (60_exceptions.md R750 to R759). A call of `runFrame` passes some steps below its target and
then ends in one of four ways; each way gives the result, and what every step and every move keeps holds of the state returned. -/

namespace Sys2Proof.Machine

/-! ## What the host's moves between two steps change (R756) -/

section Moves

variable (s : State) (moves : List HostMove)

/-- The button byte and the stop flag alone. -/
theorem State.hosted_shape : s.hosted moves = { s with p1 := (s.hosted moves).p1, stop := (s.hosted moves).stop } :=
  State.hosted_keeps s moves (motive := fun t => t = { s with p1 := t.p1, stop := t.stop })
    (fun t m h => by cases m <;> rw [h] <;> rfl) rfl

@[simp] theorem State.hosted_fault : (s.hosted moves).fault = s.fault := by rw [State.hosted_shape]
@[simp] theorem State.hosted_cycles : (s.hosted moves).cycles = s.cycles := by rw [State.hosted_shape]
@[simp] theorem State.hosted_mem : (s.hosted moves).mem = s.mem := by rw [State.hosted_shape]
@[simp] theorem State.hosted_frameTotal : (s.hosted moves).frameTotal = s.frameTotal := by rw [State.hosted_shape]
@[simp] theorem State.hosted_launch : (s.hosted moves).launch = s.launch := by rw [State.hosted_shape]

/-- One reply to each move. -/
theorem State.replies_length : (s.replies moves).length = moves.length := by
  induction moves generalizing s with
  | nil => rfl
  | cons m rest ih => simp [ih]

end Moves

theorem State.Inv.moved {s : State} (h : s.Inv) (m : HostMove) : (s.moved m).Inv := by
  cases m <;> exact { h with }

theorem State.Inv.hosted {s : State} (h : s.Inv) (moves : List HostMove) : (s.hosted moves).Inv :=
  State.hosted_keeps s moves (motive := State.Inv) (fun _ m inv => inv.moved m) h

/-! ## Steps below the target (R750) -/

/-- `n` steps lead from `s` to `u`, the host's moves before each, each step from a total below the target. -/
inductive Passes (target : Nat) : Nat → Schedule → State → State → Prop
  | here (schedule : Schedule) (s : State) : Passes target 0 schedule s s
  | after {n : Nat} {schedule : Schedule} {s t u : State} (below : s.frameTotal < target) (run : step (s.hosted schedule.now) = .next t)
      (rest : Passes target n schedule.later t u) : Passes target (n + 1) schedule s u

section Step

variable {s t : State} {moves : List HostMove}

/-- A step is taken from a state without a fault. -/
theorem noFault_of_step (run : step (s.hosted moves) = .next t) : s.fault = none := by
  obtain ⟨-, noFault, -⟩ := step_cases run
  rwa [State.hosted_fault] at noFault

/-- The total after a step: 4 to 24 more, or as before where the step faults. -/
theorem frameTotal_of_step (run : step (s.hosted moves) = .next t) :
    (t.fault = none → s.frameTotal + 4 ≤ t.frameTotal ∧ t.frameTotal ≤ s.frameTotal + 24) ∧
      (t.fault ≠ none → t.frameTotal = s.frameTotal) := by
  obtain ⟨cost, -, total, completed, faulted⟩ := stepCost _ _ run
  rw [State.hosted_frameTotal] at total
  exact ⟨fun h => by have := completed h; omega, fun h => by have := faulted h; omega⟩

theorem frameTotal_bounds (run : step (s.hosted moves) = .next t) : s.frameTotal ≤ t.frameTotal ∧ t.frameTotal ≤ s.frameTotal + 24 := by
  obtain ⟨completed, faulted⟩ := frameTotal_of_step run
  by_cases h : t.fault = none
  · have := completed h
    omega
  · have := faulted h
    omega

theorem launch_of_step (run : step (s.hosted moves) = .next t) : t.launch = s.launch := by
  obtain ⟨-, -, -, launch, -⟩ := stepKeepsCartridge _ _ run
  rw [launch, State.hosted_launch]

/-- A step is taken only where the stop flag is clear, and leaves it so (R753). -/
theorem stop_of_step (run : step (s.hosted moves) = .next t) : t.stop = false := by
  obtain ⟨-, -, stop, -⟩ := stepKeepsCartridge _ _ run
  exact stop.trans (step_cases run).1

theorem State.Inv.step (h : s.Inv) (run : step (s.hosted moves) = .next t) : t.Inv :=
  stepKeepsInv _ _ (h.hosted moves) run

end Step

namespace Passes

variable {target n : Nat} {schedule : Schedule} {s u : State}

theorem hostedRun_eq (passes : Passes target n schedule s u) : hostedRun n schedule s = .next u := by
  induction passes with
  | here => rfl
  | after _ run _ ih => rw [hostedRun_succ_of_next run, ih]

/-- What every step with the moves before it keeps. -/
theorem keeps {motive : State → Prop} (step : ∀ {s t moves}, motive s → step (State.hosted s moves) = .next t → motive t)
    (passes : Passes target n schedule s u) (h : motive s) : motive u := by
  induction passes with
  | here => exact h
  | after _ run _ ih => exact ih (step h run)

theorem inv (passes : Passes target n schedule s u) (h : s.Inv) : u.Inv := passes.keeps State.Inv.step h

theorem launch (passes : Passes target n schedule s u) : u.launch = s.launch :=
  passes.keeps (motive := fun t => t.launch = s.launch) (fun h run => (launch_of_step run).trans h) rfl

/-- Every state that a step is taken from is below the target and without a fault. -/
theorem before (passes : Passes target n schedule s u) {m : Nat} {v : State} (earlier : m < n) (run : hostedRun m schedule s = .next v) :
    v.frameTotal < target ∧ v.fault = none := by
  induction passes generalizing m with
  | here => exact absurd earlier (Nat.not_lt_zero m)
  | after below first _ ih =>
    cases m with
    | zero =>
      obtain rfl := Host.Outcome.next.inj run
      exact ⟨below, noFault_of_step first⟩
    | succ m =>
      rw [hostedRun_succ_of_next first] at run
      exact ih (Nat.lt_of_succ_lt_succ earlier) run

/-- A run of steps that ends below the target without a fault in between passes. -/
theorem of_hostedRun (run : hostedRun n schedule s = .next u) (below : u.frameTotal < target) :
    Passes target n schedule s u ∧ s.frameTotal ≤ u.frameTotal := by
  induction n generalizing schedule s with
  | zero =>
    obtain rfl := Host.Outcome.next.inj run
    exact ⟨.here schedule s, Nat.le_refl _⟩
  | succ n ih =>
    cases first : step (s.hosted schedule.now) with
    | next t =>
      rw [hostedRun_succ_of_next first] at run
      obtain ⟨rest, total⟩ := ih run
      have := frameTotal_bounds first
      exact ⟨.after (by omega) first rest, by omega⟩
    | fault f => simp only [hostedRun, first, reduceCtorEq] at run
    | refused r => simp only [hostedRun, first, reduceCtorEq] at run

/-- A step from below the target ends at most 23 past it. -/
theorem total_le (passes : Passes target n schedule s u) (start : s.frameTotal ≤ target + 23) : u.frameTotal ≤ target + 23 := by
  induction passes with
  | here => exact start
  | after below run _ ih =>
    have := frameTotal_bounds run
    exact ih (by omega)

theorem le_total (passes : Passes target n schedule s u) : s.frameTotal ≤ u.frameTotal :=
  passes.keeps (motive := fun t => s.frameTotal ≤ t.frameTotal) (fun h run => h.trans (frameTotal_bounds run).1) (Nat.le_refl _)

/-- A step taken leaves the stop flag clear. -/
theorem clear (passes : Passes target (n + 1) schedule s u) : u.stop = false := by
  cases passes with
  | after _ run rest => exact rest.keeps (motive := fun t => t.stop = false) (fun _ run => stop_of_step run) (stop_of_step run)

/-- One step more. -/
theorem snoc (passes : Passes target n schedule s u) {t : State} (below : u.frameTotal < target)
    (run : step (u.hosted (schedule.getD n [])) = .next t) : Passes target (n + 1) schedule s t := by
  induction passes with
  | here schedule s => exact .after below (Schedule.now_eq ▸ run) (.here _ t)
  | @after n schedule _ _ _ below' first _ ih => exact .after below' first (ih below (Schedule.later_getD n ▸ run))

/-- Where no fault is left at the end, there was none. -/
theorem start_noFault (passes : Passes target n schedule s u) (last : u.fault = none) : s.fault = none := by
  cases passes with
  | here => exact last
  | after _ run _ => exact noFault_of_step run

/-- Each step costs at least 4, where no fault is left at the end (R818). -/
theorem cost_le (passes : Passes target n schedule s u) (last : u.fault = none) : s.frameTotal + 4 * n ≤ u.frameTotal := by
  induction passes with
  | here => exact Nat.le_refl _
  | after _ run rest ih =>
    have first := ((frameTotal_of_step run).1 (rest.start_noFault last)).1
    have later := ih last
    omega

end Passes

/-! ## How a call ends (R751 to R753) -/

/-- From `u`, with these moves before the next step, the loop ends with this result in state `t`: at the target; stopped by the flag; faulted before; or
by a step that faults. -/
inductive Ending (target : Nat) (moves : List HostMove) (u : State) : FrameResult → State → Prop
  | done (reached : target ≤ u.frameTotal) : Ending target moves u (.frame u.framebuffer u.frameTotal) u
  | stopped (below : u.frameTotal < target) (flag : (u.hosted moves).stop = true) :
      Ending target moves u (.stopped u.frameTotal) (u.hosted moves)
  | faulted (f : Fault) (below : u.frameTotal < target) (clear : (u.hosted moves).stop = false) (fault : u.fault = some f) :
      Ending target moves u (.faulted f u.frameTotal) (u.hosted moves)
  | faults (f : Fault) (t : State) (below : u.frameTotal < target) (run : step (u.hosted moves) = .next t) (fault : t.fault = some f) :
      Ending target moves u (.faulted f t.frameTotal) t

section Loop

variable {target n fuel : Nat} {schedule : Schedule} {s t u : State} {result : FrameResult}

/-- The moves after `n` steps. -/
theorem Schedule.now_drop (schedule : Schedule) (n : Nat) : Schedule.now (schedule.drop n) = schedule.getD n [] := by
  simp [Schedule.now]

/-- The loop's last iteration. -/
theorem frameLoop_of_ending (ending : Ending target schedule.now u result t) :
    ∃ replies, frameLoop target (fuel + 1) schedule u = some ⟨result, replies, t⟩ := by
  cases ending with
  | done reached => exact ⟨_, frameLoop_of_done reached⟩
  | stopped below flag => exact ⟨_, by simpa using frameLoop_of_stopped below flag⟩
  | faulted f below clear fault => exact ⟨_, by simpa using frameLoop_of_faulted below clear (by simpa using fault)⟩
  | faults f t below run fault => exact ⟨_, frameLoop_of_faults below run fault⟩

/-- The iterations before it. -/
theorem frameLoop_of_passes (passes : Passes target n schedule s u) (last : n = 0 ∨ u.fault = none)
    (ending : Ending target (schedule.getD n []) u result t) :
    ∃ replies, frameLoop target (n + (fuel + 1)) schedule s = some ⟨result, replies, t⟩ := by
  induction passes with
  | here =>
    rw [Nat.zero_add]
    exact frameLoop_of_ending (Schedule.now_eq ▸ ending)
  | @after n schedule s t' u below run rest ih =>
    have noFault : u.fault = none := last.resolve_left (Nat.succ_ne_zero n)
    obtain ⟨replies, loop⟩ := ih (.inr noFault) (Schedule.later_getD n ▸ ending)
    refine ⟨s.replies schedule.now ++ replies, ?_⟩
    rw [Nat.add_right_comm, frameLoop_of_next below run (rest.start_noFault noFault), loop]
    rfl

/-- A state neither stopped nor faulted has a step (R703, R753). -/
theorem exists_step (hs : s.stop = false) (hf : s.fault = none) : ∃ t, step s = .next t := by
  cases hi : s.idles with
  | true => exact ⟨_, step_of_idles hs hf hi⟩
  | false =>
    obtain ⟨t, run, -⟩ := exec_answers s.wake.fetchInstr s.wake
    exact ⟨_, step_of_runs hs hf hi run⟩

/-- Some number of steps leads to an end of the loop: while it goes on, the total comes closer to the target. -/
theorem exists_ending (target : Nat) (schedule : Schedule) (s : State) :
    ∃ n u result t, Passes target n schedule s u ∧ (n = 0 ∨ u.fault = none) ∧ Ending target (schedule.getD n []) u result t := by
  induction left : target - s.frameTotal using Nat.strongRecOn generalizing schedule s with
  | ind left' ih =>
    have endsHere {result : FrameResult} {t : State} (ending : Ending target schedule.now s result t) :
        ∃ n u result t, Passes target n schedule s u ∧ (n = 0 ∨ u.fault = none) ∧ Ending target (schedule.getD n []) u result t :=
      ⟨0, s, result, t, .here schedule s, .inl rfl, Schedule.now_eq ▸ ending⟩
    rcases Nat.lt_or_ge s.frameTotal target with below | reached
    swap
    · exact endsHere (.done reached)
    cases flag : (s.hosted schedule.now).stop with
    | true => exact endsHere (.stopped below flag)
    | false =>
      cases fault : s.fault with
      | some f => exact endsHere (.faulted f below flag fault)
      | none =>
        obtain ⟨t, run⟩ := exists_step flag (by simpa using fault)
        cases after : t.fault with
        | some f => exact endsHere (.faults f t below run after)
        | none =>
          have closer := ((frameTotal_of_step run).1 after).1
          obtain ⟨n, u, result, v, passes, last, ending⟩ := ih _ (by omega) schedule.later t rfl
          refine ⟨n + 1, u, result, v, .after below run passes, .inr ?_, Schedule.later_getD n ▸ ending⟩
          rcases last with rfl | last
          · cases passes
            exact after
          · exact last

end Loop

/-! ## A call of `runFrame` (R750) -/

section Call

variable {s u t : State} {schedule : Schedule} {n : Nat} {result : FrameResult}

/-- The target is the next multiple of a frame's cycles (R751). -/
theorem frameTarget_eq (total : Nat) : frameTarget total = (total / 70224 + 1) * 70224 := rfl

/-- The call's fuel is more than the steps to any end use up (log entry 17). -/
theorem runFrame_of_ending (passes : Passes (frameTarget s.frameTotal) n schedule s.launched u) (last : n = 0 ∨ u.fault = none)
    (ending : Ending (frameTarget s.frameTotal) (schedule.getD n []) u result t) :
    ∃ replies, runFrame schedule s = some ⟨result, replies, t⟩ := by
  have target := frameTarget_eq s.frameTotal
  have start : s.launched.frameTotal = s.frameTotal := rfl
  have steps : n ≤ 70224 := by
    rcases last with rfl | last
    · exact Nat.zero_le _
    · have most := passes.total_le (by omega)
      have least := passes.cost_le last
      omega
  obtain ⟨fuel, enough⟩ : ∃ fuel, Config.frameCycles + 2 = n + (fuel + 1) :=
    ⟨70225 - n, by rw [show Config.frameCycles = 70224 from rfl]; omega⟩
  rw [runFrame, enough]
  exact frameLoop_of_passes passes last ending

/-- Every call returns, and in one of the four ways. -/
theorem runFrame_ends (schedule : Schedule) (s : State) :
    ∃ n u result t replies, Passes (frameTarget s.frameTotal) n schedule s.launched u ∧ (n = 0 ∨ u.fault = none) ∧
      Ending (frameTarget s.frameTotal) (schedule.getD n []) u result t ∧ runFrame schedule s = some ⟨result, replies, t⟩ := by
  obtain ⟨n, u, result, t, passes, last, ending⟩ := exists_ending (frameTarget s.frameTotal) schedule s.launched
  obtain ⟨replies, run⟩ := runFrame_of_ending passes last ending
  exact ⟨n, u, result, t, replies, passes, last, ending, run⟩

theorem Ending.inv {target : Nat} {moves : List HostMove} (ending : Ending target moves u result t) (h : u.Inv) : t.Inv := by
  cases ending with
  | done => exact h
  | stopped => exact h.hosted moves
  | faulted => exact h.hosted moves
  | faults f t below run => exact h.step run

/-- The state returned meets the invariant. -/
theorem State.Inv.runFrame {run : FrameRun} (h : s.Inv) (call : runFrame schedule s = some run) : run.state.Inv := by
  obtain ⟨n, u, result, t, replies, passes, -, ending, returned⟩ := runFrame_ends schedule s
  obtain rfl := Option.some.inj (call.symm.trans returned)
  exact ending.inv (passes.inv h.launched)

end Call

/-! ## What the host is given back (R752, R755, R759) -/

section Results

variable {s t u : State} {schedule : Schedule} {n : Nat}

/-- The state at which a call returns a frame: at most 23 cycles past the boundary, so in the first line (R755). -/
structure FrameEnd (boundary : Nat) (u : State) : Prop where
  inv : u.Inv
  reached : boundary ≤ u.frameTotal
  within : u.frameTotal ≤ boundary + 23
  line : u.ly = 0
  dot : u.dot ≤ 23
  fault : u.fault = none
  clear : u.stop = false

/-- The total says where the display is. -/
theorem State.Inv.atFrameStart (h : u.Inv) {frames : Nat} (reached : frames * 70224 ≤ u.frameTotal) (within : u.frameTotal ≤ frames * 70224 + 23) :
    u.ly = 0 ∧ u.dot ≤ 23 := by
  have total := h.total
  have phase : 456 * u.ly + u.dot = u.cycles % 70224 := h.phase
  omega

/-- The steps of a call that reach its target end a frame. -/
theorem Passes.frameEnd (passes : Passes (frameTarget s.frameTotal) n schedule s.launched u) (h : s.Inv) (last : n = 0 ∨ u.fault = none)
    (reached : frameTarget s.frameTotal ≤ u.frameTotal) : FrameEnd (frameTarget s.frameTotal) u := by
  have target := frameTarget_eq s.frameTotal
  have start : s.launched.frameTotal = s.frameTotal := rfl
  cases n with
  | zero =>
    cases passes
    omega
  | succ n =>
    have inv := passes.inv h.launched
    have within := passes.total_le (by omega)
    obtain ⟨line, dot⟩ := inv.atFrameStart reached within
    exact ⟨inv, reached, within, line, dot, last.resolve_left (Nat.succ_ne_zero n), passes.clear⟩

/-- A call on a faulted machine returns the same fault with the same total, whatever the host does but set the stop flag (R752). -/
theorem runFrame_of_faulted {f : Fault} (launch : s.launch = .running) (fault : s.fault = some f)
    (clear : (s.hosted (schedule.getD 0 [])).stop = false) :
    runFrame schedule s =
      some ⟨.faulted f s.frameTotal, s.replies (schedule.getD 0 []), s.hosted (schedule.getD 0 [])⟩ := by
  have launched : s.launched = s := by
    cases s
    cases launch
    rfl
  have below : s.frameTotal < frameTarget s.frameTotal := by
    rw [frameTarget_eq]
    omega
  rw [← Schedule.now_eq] at clear ⊢
  rw [runFrame, launched, frameLoop_of_faulted below clear (by simpa using fault), State.hosted_frameTotal]

/-- A call that returns a frame ends at its boundary. -/
theorem frameEnd_of_frame (h : s.Inv) {fb : List (List Shade)} {total : Nat} {replies : List HostReply}
    (call : runFrame schedule s = some ⟨.frame fb total, replies, t⟩) : FrameEnd (frameTarget s.frameTotal) t := by
  obtain ⟨n, u, result, v, _, passes, last, ending, returned⟩ := runFrame_ends schedule s
  obtain ⟨rfl, -, rfl⟩ := FrameRun.mk.inj (Option.some.inj (call.symm.trans returned))
  cases ending with
  | done reached => exact passes.frameEnd h last reached

theorem runFrames_of_observedAt {schedules : List Schedule} (observed : observedAt schedules s = some t) :
    runFrames schedules s = some (.ended, t) := by
  unfold observedAt at observed
  split at observed
  next ended => rw [ended, Option.some.inj observed]
  next => cases observed

/-- A run of frames goes on from the end of its first. -/
theorem runFrames_cons {schedules : List Schedule} (h : s.Inv) (ended : runFrames (schedule :: schedules) s = some (.ended, t)) :
    ∃ u, FrameEnd (frameTarget s.frameTotal) u ∧ runFrames schedules u = some (.ended, t) := by
  rw [runFrames] at ended
  split at ended
  next u call => exact ⟨u, frameEnd_of_frame h call, ended⟩
  all_goals cases ended

/-- The k-th frame of a run ends at the k-th boundary (R751, R759). -/
theorem frameEnd_of_runFrames {schedules : List Schedule} (h : s.Inv) (nonempty : schedules ≠ [])
    (ended : runFrames schedules s = some (.ended, t)) : FrameEnd ((s.frameTotal / 70224 + schedules.length) * 70224) t := by
  induction schedules generalizing s with
  | nil => exact absurd rfl nonempty
  | cons schedule rest ih =>
    obtain ⟨u, first, later⟩ := runFrames_cons h ended
    rw [frameTarget_eq] at first
    cases rest with
    | nil =>
      obtain ⟨-, rfl⟩ := Prod.mk.inj (Option.some.inj later)
      exact first
    | cons next rest =>
      have frames : u.frameTotal / 70224 = s.frameTotal / 70224 + 1 := by
        have reached := first.reached
        have within := first.within
        omega
      have last := ih first.inv (List.cons_ne_nil next rest) later
      rw [frames] at last
      rwa [List.length_cons (a := schedule), Nat.add_comm (List.length _) 1, ← Nat.add_assoc]

end Results

/-- Settles O55: each way that a call ends gives its result; a set stop flag ends it there; a run of frames ends at its boundary. -/
theorem runFrameReturns : Obligations.RunFrameReturns := by
  intro s schedule h start target
  refine ⟨?returns, fun n u run below last flag => ?stops, fun schedules t nonempty observed => ?observed⟩
  case returns =>
    obtain ⟨n, u, result, t, replies, passes, last, ending, returned⟩ := runFrame_ends schedule s
    have inv := h.runFrame returned
    have least : s.frameTotal ≤ u.frameTotal := passes.le_total
    cases ending with
    | done reached =>
      obtain ⟨-, -, within, line, dot, fault, -⟩ := passes.frameEnd h last reached
      exact ⟨_, n, u, returned, inv, passes.hostedRun_eq, fun _ _ => passes.before, rfl, rfl, rfl, reached, within, line, dot, fault⟩
    | stopped below flag =>
      have below' : u.frameTotal < (s.frameTotal / 70224 + 1) * 70224 := below
      have same : u.frameTotal / 70224 = s.frameTotal / 70224 := by omega
      exact ⟨_, n, u, returned, inv, passes.hostedRun_eq, fun _ _ => passes.before, rfl, flag, rfl, below,
        congrArg (fun frames => (frames + 1) * 70224) same⟩
    | faulted f below clear fault =>
      have first : n = 0 := last.resolve_right (by simp [fault])
      subst first
      refine ⟨_, 0, u, returned, inv, passes.hostedRun_eq, fun _ _ => passes.before, rfl, fault, rfl, below, fun later clear => ?_⟩
      have again := runFrame_of_faulted (schedule := later) (by simpa using passes.launch) ((State.hosted_fault u _).trans fault) clear
      rwa [State.hosted_frameTotal] at again
    | faults f t below run fault =>
      have longer := passes.snoc below run
      have total : t.frameTotal = u.frameTotal := (frameTotal_of_step run).2 (by simp [fault])
      exact ⟨_, n + 1, t, returned, inv, longer.hostedRun_eq, fun _ _ => longer.before, rfl, fault, rfl, total ▸ below,
        fun later clear => runFrame_of_faulted longer.launch fault clear⟩
  case stops =>
    obtain ⟨passes, -⟩ := Passes.of_hostedRun run below
    obtain ⟨replies, returned⟩ := runFrame_of_ending passes last (.stopped below flag)
    exact ⟨_, returned, rfl, rfl⟩
  case observed =>
    obtain ⟨-, reached, within, line, dot, fault, clear⟩ := frameEnd_of_runFrames h nonempty (runFrames_of_observedAt observed)
    exact ⟨reached, within, line, dot, fault, clear⟩

/-! ## What the host's operations keep (R756) -/

section Operations

variable {s : State}

/-- A save goes to external RAM, which is stored. -/
theorem State.Inv.applySave (h : s.Inv) (bytes : List Byte) : (s.applySave bytes).Inv := by
  by_cases size : bytes.length = 0x2000
  · rw [State.applySave_of_accepted size]
    obtain ⟨canonical, stored⟩ := h.mem
    refine { h with mem := ⟨Memory.wf_writeBytes 0xA000 bytes canonical, fun cell mem => ?_⟩ }
    rcases Memory.mem_writeBytes mem with before | ⟨lo, hi⟩
    · exact stored cell before
    · rw [storageAddress, ramAddress_iff.2 (.inl ⟨by omega, by omega⟩), Bool.true_or]
  · rwa [State.applySave_of_refused size]

theorem State.Inv.gameInstalled (h : s.Inv) (data : List Byte) : (s.gameInstalled data).Inv :=
  { h with bank := (by decide : (1 : BitVec 5) ≠ 0) }

theorem State.Inv.offered (h : s.Inv) (save : Option (List Byte)) : (s.offered save).Inv := by
  cases save with
  | none => exact h
  | some bytes => exact h.applySave bytes

theorem State.Inv.loadGame {t : State} {data : List Byte} {save : Option (List Byte)} (h : s.Inv) (load : loadGame data save s = .next t) :
    t.Inv := by
  cases running : s.running with
  | true =>
    rw [loadGame_of_running running] at load
    cases load
  | false =>
    rw [loadGame_of_not_running running] at load
    obtain rfl := Host.Outcome.next.inj load
    exact (h.gameInstalled data).offered save

theorem State.Inv.loadSave {t : State} {bytes : List Byte} (h : s.Inv) (load : loadSave bytes s = .next t) : t.Inv := by
  cases running : s.running with
  | true =>
    rw [loadSave_of_running running] at load
    cases load
  | false =>
    rw [loadSave_of_not_running running] at load
    split at load
    · obtain rfl := Host.Outcome.next.inj load
      exact h.applySave bytes
    · cases load

/-- One move more, in its place after the others. -/
theorem State.hosted_snoc (moves : List HostMove) (m : HostMove) : s.hosted (moves ++ [m]) = (s.hosted moves).moved m := by
  rw [State.hosted_append]
  rfl

theorem State.replies_snoc (moves : List HostMove) (m : HostMove) : s.replies (moves ++ [m]) = s.replies moves ++ [(s.hosted moves).reply m] := by
  rw [State.replies_append]
  rfl

end Operations

/-- Settles O57: each operation keeps the invariant, and the moves before the last leave what it reads. -/
theorem hostKeepsInv : Obligations.HostKeepsInv := by
  intro s t data bytes save v on moves schedule run h
  refine ⟨h.moved (.setButtons v), h.moved (.setStop on), h.loadGame, h.loadSave, h.runFrame, h.hosted moves, ?others,
    s.replies_length moves, ⟨rfl, rfl⟩, ⟨State.hosted_snoc .., ?saved⟩, ⟨State.hosted_snoc .., ?read⟩,
    ⟨State.hosted_snoc .., State.replies_snoc ..⟩, ⟨State.hosted_snoc .., State.replies_snoc ..⟩⟩
  case others => rw [State.hosted_shape]
  case saved =>
    rw [State.replies_snoc, State.reply, State.storeSave, State.hosted_mem]
    rfl
  case read => rw [State.replies_snoc, State.reply, State.readCycles, State.hosted_cycles]

end Sys2Proof.Machine
end
